-- ==== Sys2Proof/Word.lean ====
section
/-! DEFINITION. The word and byte types (00_scope.md R5, R8) and narrowing to a register's width. -/

namespace Sys2Proof

/-- A data value of the hardware: 64 bits, unsigned (00_scope.md R5, R8). -/
abbrev Word := BitVec 64

/-- One byte lane of the window (20_memory.md R69). -/
abbrev Byte := BitVec 8

/-- `trunc_64` of an exact natural number (00_scope.md R8, R9). -/
abbrev narrow (n : Nat) : Word := BitVec.ofNat 64 n

end Sys2Proof
end

