-- ==== Sys2Proof/Config.lean ====
section
/-! DEFINITION. The parameters of 00_scope.md R5: the fixed sizes, and the two OPEN seed-mixing constants. -/

namespace Sys2Proof.Config

/-- `SHUFFLE1`, OPEN (00_scope.md R5, 42_construction.md R186, 93 U9): no value is known, so none can be
proved of it (log entry 9). -/
opaque shuffle1 : Word

/-- `SHUFFLE2`, OPEN (00_scope.md R5, 42_construction.md R186, 93 U9; log entry 9). -/
opaque shuffle2 : Word

/-- `NCUR`, the number of sequence cursors (00_scope.md R5). -/
abbrev numCursors : Nat := 4

/-- `WINDOW`, the bytes of the register window (00_scope.md R5). -/
abbrev windowBytes : Nat := 128

end Sys2Proof.Config
end

