-- ==== Sys2Proof/Syntax.lean ====
section
/-! DEFINITION. The commands: one constructor per row of spec/opcode_table.json (30_encoding.md R95). -/

namespace Sys2Proof

/-- A command of the engine (30_encoding.md R95). The only operand field is `CSEL`, the cursor number
(R93, R94); the mode flag `M` is part of the mnemonic (R92). -/
inductive Instr where
  /-- ISQRTF, 40_isqrt.md R124. -/
  | isqrtf
  /-- ISQRTC, 40_isqrt.md R125. -/
  | isqrtc
  /-- ISPRIME, 41_primality.md R150. -/
  | isprime
  /-- PPRED, 41_primality.md R155. -/
  | ppred
  /-- SELPRIME, 42_construction.md R181. -/
  | selprime
  /-- SELPRIME.NT, 42_construction.md R182. -/
  | selprimeNt
  /-- MODSQ, 43_mapping.md R203. -/
  | modsq
  /-- CONSTRUCT, 42_construction.md R187. -/
  | construct
  /-- CONSTRUCT.NT, 42_construction.md R188. -/
  | constructNt
  /-- DEFAULT, 42_construction.md R189. -/
  | defaultInstance
  /-- PERMUTE, 43_mapping.md R206. -/
  | permute
  /-- EVAL, 43_mapping.md R210. -/
  | eval
  /-- SEQSTART k, 44_sequence.md R232. -/
  | seqstart (k : Fin Config.numCursors)
  /-- SEQNEXT k, 44_sequence.md R233. -/
  | seqnext (k : Fin Config.numCursors)
  /-- ACK, 45_system.md R250. -/
  | ack
deriving DecidableEq, Repr

end Sys2Proof
end

