-- ==== Sys2Proof/WellFormed.lean ====
section
/-! DEFINITION. Which 64-bit values are command words, said by format (30_encoding.md R90 to R93, R95) and
independently of the decoder. An `Instr` is well formed by its type: its one operand field is a `Fin`. -/

namespace Sys2Proof

/-- The three formats (30_encoding.md R91, R92, R93). -/
inductive Format where
  /-- No fields (R91). -/
  | n
  /-- One mode flag, bit 8 (R92). -/
  | m
  /-- Cursor select, bits 11:10 (R93). -/
  | c
deriving DecidableEq, Repr

/-- The bits of a 32-bit command word that the format requires to be zero (30_encoding.md R91 to R93). -/
def Format.mustBeZero : Format → BitVec 32
  | .n => 0xFFFFFF00#32
  | .m => 0xFFFFFE00#32
  | .c => 0xFFFFF300#32

/-- The opcodes in use and their formats (30_encoding.md R95). -/
def opcodeFormats : List (BitVec 8 × Format) :=
  [(0x01#8, .m), (0x02#8, .n), (0x03#8, .n), (0x04#8, .m), (0x05#8, .n), (0x08#8, .m), (0x09#8, .n),
   (0x0A#8, .n), (0x0B#8, .n), (0x0C#8, .c), (0x0D#8, .c), (0x0F#8, .n)]

/-- The command word carried by a value written to CMD: bits 31:0 (30_encoding.md R90). -/
def commandBits (v : Word) : BitVec 32 := v.setWidth 32

/-- Bits 63:32 of the written value are 0 (30_encoding.md R90). -/
def highHalfClear (v : Word) : Bool := v.extractLsb' 32 32 == 0#32

/-- The opcode byte is one of the map's (30_encoding.md R95). -/
def opcodeAssigned (v : Word) : Bool := (opcodeFormats.lookup (v.setWidth 8)).isSome

/-- The must-be-zero fields of the opcode's format are 0 (30_encoding.md R91 to R93). -/
def reservedFieldsClear (v : Word) : Bool :=
  match opcodeFormats.lookup (v.setWidth 8) with
  | some f => commandBits v &&& f.mustBeZero == 0#32
  | none => true

/-- A legal command word (30_encoding.md R95). -/
def wellFormedWord (v : Word) : Bool :=
  highHalfClear v && opcodeAssigned v && reservedFieldsClear v

/-- A command's cursor number names a cursor (30_encoding.md R93: all four values are legal). -/
def Instr.wellFormed : Instr → Bool
  | .seqstart k => decide (k.val < Config.numCursors)
  | .seqnext k => decide (k.val < Config.numCursors)
  | .isqrtf | .isqrtc | .isprime | .ppred | .selprime | .selprimeNt | .modsq | .construct
  | .constructNt | .defaultInstance | .permute | .eval | .ack => true

end Sys2Proof
end

