-- ==== Sys2Proof/Decode.lean ====
section
/-! DEFINITION. The decoder of 30_encoding.md R96, total on all 64-bit values, and the encoder written from the
formats R91 to R93. -/

namespace Sys2Proof

/-- Why a value is an illegal command (30_encoding.md R97), one name per way of being illegal. -/
inductive Illegal where
  /-- A non-zero bit in bits 63:32 (R90). -/
  | highHalf
  /-- A non-zero bit in bits 31:12 (R91 to R93). -/
  | upperField
  /-- A non-zero bit in bits 11:9 of a format M word (R92). -/
  | formatM
  /-- A non-zero bit in bits 11:8 of a format N word (R91). -/
  | formatN
  /-- A non-zero bit in bits 9:8 of a format C word (R93). -/
  | formatC
  /-- An opcode that the map of R95 does not assign, 0x00 among them. -/
  | opcode
deriving DecidableEq, Repr

/-- `v[hi:lo]` of 00_scope.md R8, as a number. -/
def field (v : Word) (hi lo : Nat) : Nat := (v.extractLsb' lo (hi - lo + 1)).toNat

/-- A format M word (30_encoding.md R92): bits 11:9 zero, bit 8 chooses between two commands. -/
def decodeM (v : Word) (floor other : Instr) : Except Illegal Instr :=
  if field v 11 9 ≠ 0 then .error .formatM
  else if field v 8 8 = 0 then .ok floor else .ok other

/-- A format N word (30_encoding.md R91): bits 11:8 zero. -/
def decodeN (v : Word) (i : Instr) : Except Illegal Instr :=
  if field v 11 8 ≠ 0 then .error .formatN else .ok i

/-- `CSEL`, bits 11:10 (30_encoding.md R93): an unsigned 2-bit number. -/
def cursorSelect (v : Word) : Fin Config.numCursors := ⟨field v 11 10, (v.extractLsb' 10 2).isLt⟩

/-- A format C word (30_encoding.md R93): bits 9:8 zero, bits 11:10 the cursor. -/
def decodeC (v : Word) (i : Fin Config.numCursors → Instr) : Except Illegal Instr :=
  if field v 9 8 ≠ 0 then .error .formatC else .ok (i (cursorSelect v))

/-- `decode` of 30_encoding.md R96. -/
def decode (v : Word) : Except Illegal Instr :=
  if field v 63 32 ≠ 0 then .error .highHalf
  else if field v 31 12 ≠ 0 then .error .upperField
  else
    match field v 7 0 with
    | 0x01 => decodeM v .isqrtf .isqrtc
    | 0x04 => decodeM v .selprime .selprimeNt
    | 0x08 => decodeM v .construct .constructNt
    | 0x02 => decodeN v .isprime
    | 0x03 => decodeN v .ppred
    | 0x05 => decodeN v .modsq
    | 0x09 => decodeN v .defaultInstance
    | 0x0A => decodeN v .permute
    | 0x0B => decodeN v .eval
    | 0x0F => decodeN v .ack
    | 0x0C => decodeC v .seqstart
    | 0x0D => decodeC v .seqnext
    | _ => .error .opcode

/-- A format N value (30_encoding.md R91). -/
def encodeN (op : BitVec 8) : Word := 0#56 ++ op

/-- A format M value (30_encoding.md R92). -/
def encodeM (op : BitVec 8) (m : BitVec 1) : Word := 0#55 ++ m ++ op

/-- A format C value (30_encoding.md R93). -/
def encodeC (op : BitVec 8) (k : Fin Config.numCursors) : Word :=
  0#52 ++ BitVec.ofNat 2 k.val ++ 0#2 ++ op

/-- The 64-bit value a host writes to CMD for a command (30_encoding.md R95, R100). -/
def encode : Instr → Word
  | .isqrtf => encodeM 0x01#8 0#1
  | .isqrtc => encodeM 0x01#8 1#1
  | .isprime => encodeN 0x02#8
  | .ppred => encodeN 0x03#8
  | .selprime => encodeM 0x04#8 0#1
  | .selprimeNt => encodeM 0x04#8 1#1
  | .modsq => encodeN 0x05#8
  | .construct => encodeM 0x08#8 0#1
  | .constructNt => encodeM 0x08#8 1#1
  | .defaultInstance => encodeN 0x09#8
  | .permute => encodeN 0x0A#8
  | .eval => encodeN 0x0B#8
  | .seqstart k => encodeC 0x0C#8 k
  | .seqnext k => encodeC 0x0D#8 k
  | .ack => encodeN 0x0F#8

/-- The ACK word, the one value the write to CMD itself tests for (20_memory.md R67, 45_system.md R250). -/
def ackWord : Word := 0x000000000000000F#64

/-- The 64-bit value to write to CMD for an opcode-table row's bits: every bit above the row's own is 0. -/
def tableValue (nbits w : Nat) : Word := narrow (w % 2 ^ nbits)

/-- The command the decoder reads from an opcode-table row's bits. -/
def decodeTableWord (nbits w : Nat) : Option Instr :=
  match decode (tableValue nbits w) with
  | .ok i => some i
  | .error _ => none

end Sys2Proof
end

