-- ==== Sys2Proof/Machine/State.lean ====
section
/-! DEFINITION. The machine's state (10_state.md R20), the turns of the agents (00_scope.md R6), the answers on
the bus, the reasons to stop, and the state after reset (10_state.md R50). -/

namespace Sys2Proof.Machine

/-- The cause of a command fault (60_exceptions.md R261). Codes 0 and 5 to 15 are never raised. -/
inductive Cause where
  /-- An illegal command word. -/
  | illcmd
  /-- A construction with universe 0. -/
  | uzero
  /-- An index or a start out of range, or an exhausted cursor. -/
  | range
  /-- A modular square with modulus 0. -/
  | divzero
deriving DecidableEq, Repr

/-- The width of a host access; only `b64` is admitted (20_memory.md R62). -/
inductive AccessSize where
  | b8
  | b16
  | b32
  | b64
  | burst
deriving DecidableEq, Repr

/-- One turn of one agent (00_scope.md R6): what happens next to the block. An offset is counted in bytes from
the window's base (20_memory.md R60). -/
inductive Turn where
  /-- The host reads (20_memory.md R63). -/
  | read (size : AccessSize) (off : Nat)
  /-- The host writes (20_memory.md R64 to R68). -/
  | write (size : AccessSize) (off : Nat) (v : Word)
  /-- The engine may take its completion step (10_state.md R41). -/
  | engine
  /-- Reset is applied (70_reset_and_hazards.md R300). -/
  | reset
deriving DecidableEq, Repr

/-- The block's answer to the latest host access (20_memory.md R62, R63, R66). -/
inductive Response where
  /-- No access has been answered since reset. -/
  | none
  /-- The value a read returns. -/
  | data (v : Word)
  /-- The normal response to a write, dropped and ignored writes among them. -/
  | ok
  /-- The bus's error response: the access was refused (20_memory.md R62). -/
  | error
deriving DecidableEq, Repr

/-- Why a run stops. A command's fault (60_exceptions.md R262) is NOT here: its entry is a next state. -/
inductive Fault where
  /-- Raised by a turn of the host whose access lies outside the 128-byte window: it is not addressed to the
  block, and 93_implementation_defined.md V4 gives it no step. Safe: the model stops. -/
  | outsideWindow
deriving DecidableEq, Repr

/-- Why an instruction has no meaning. -/
inductive Refusal where
  /-- Raised by `exec` alone, for an instruction the model has not reached. Safe: the model stops. -/
  | notModelled (mnemonic : String)
deriving DecidableEq, Repr

/-- The whole architectural state (10_state.md R20), and the model's own `schedule` and `resp`. -/
structure State where
  /-- `ARG0` (R21). -/
  arg0 : Word
  /-- `ARG1` (R21). -/
  arg1 : Word
  /-- `RES` (R21). -/
  res : Word
  /-- `UNIVERSE` (R23). -/
  univ : Word
  /-- `SEED`, mixed (R23). -/
  seed : Word
  /-- `PRIME`, or 0 (R23). -/
  prime : Word
  /-- `CUR[0]` to `CUR[3]` (R24). -/
  cur : Vector Word Config.numCursors
  /-- `STATUS.BUSY` (R27). -/
  busy : Bool
  /-- `STATUS.DONE` (R27). -/
  done : Bool
  /-- `STATUS.ERR` (R28). -/
  err : Bool
  /-- `STATUS.OVR` (R28). -/
  ovr : Bool
  /-- `STATUS.PF` (R25). -/
  pf : Bool
  /-- `STATUS.TH` (R25). -/
  th : Bool
  /-- `STATUS.CAUSE` (R28). -/
  cause : BitVec 4
  /-- `ECMD` (R32). -/
  ecmd : Word
  /-- `CTRL.IE_DONE` (R29). -/
  ieDone : Bool
  /-- `CTRL.IE_ERR` (R29). -/
  ieErr : Bool
  /-- `PEND` (R40). -/
  pend : Word
  /-- The model's own: the turns still to come, the next one first (log entry 1). -/
  schedule : List Turn
  /-- The model's own: the answer to the latest host access (log entry 8). -/
  resp : Response
deriving DecidableEq, Repr

/-- What a meaning and a step answer. -/
abbrev Result := Host.Outcome State Fault Refusal

/-- The state after reset (10_state.md R50). `pend` is unspecified there (log entry 6); `schedule` and `resp` are
the model's own (log entries 1 and 8). -/
def State.reset : State where
  arg0 := 0
  arg1 := 0
  res := 0
  univ := 1
  seed := 0
  prime := 0
  cur := Vector.replicate Config.numCursors 0
  busy := false
  done := false
  err := false
  ovr := false
  pf := false
  th := false
  cause := 0
  ecmd := 0
  ieDone := false
  ieErr := false
  pend := 0
  schedule := []
  resp := .none

end Sys2Proof.Machine
end

