-- ==== Sys2Proof/Machine/Ops.lean ====
section
/-! DEFINITION. The named operations on the state: register writes, issue, completion, fault entry and the return
from a fault (10_state.md R41, 60_exceptions.md R262, 45_system.md R250). -/

namespace Sys2Proof.Machine

/-- `ARG0 <- v` (20_memory.md R64). -/
def State.setArg0 (s : State) (v : Word) : State := { s with arg0 := v }

/-- `ARG1 <- v` (20_memory.md R64). -/
def State.setArg1 (s : State) (v : Word) : State := { s with arg1 := v }

/-- `RES <- v` (10_state.md R21). -/
def State.setRes (s : State) (v : Word) : State := { s with res := v }

/-- The three instance registers are written together (10_state.md R23). -/
def State.setInstance (s : State) (u sd p : Word) : State := { s with univ := u, seed := sd, prime := p }

/-- `CUR[k] <- v` (10_state.md R24). -/
def State.setCursor (s : State) (k : Fin Config.numCursors) (v : Word) : State :=
  { s with cur := s.cur.set k v }

/-- All four cursors to 0 (10_state.md R24). -/
def State.clearCursors (s : State) : State := { s with cur := Vector.replicate Config.numCursors 0 }

/-- `STATUS.PF <- b` (10_state.md R25). -/
def State.setPf (s : State) (b : Bool) : State := { s with pf := b }

/-- `STATUS.TH <- b` (10_state.md R25). -/
def State.setTh (s : State) (b : Bool) : State := { s with th := b }

/-- `CTRL.IE_DONE <- v[0]`, `CTRL.IE_ERR <- v[1]`; bits 63:2 are ignored (20_memory.md R68). -/
def State.setCtrl (s : State) (v : Word) : State := { s with ieDone := v.getLsbD 0, ieErr := v.getLsbD 1 }

/-- A dropped write leaves its mark and nothing else (20_memory.md R66). -/
def State.dropWrite (s : State) : State := { s with ovr := true }

/-- Issue: `PEND <- v`, `BUSY <- 1`, `DONE <- 0` and nothing else (10_state.md R41). -/
def State.issue (s : State) (v : Word) : State := { s with pend := v, busy := true, done := false }

/-- The end of a completion without fault: `BUSY <- 0`, `DONE <- 1` (10_state.md R41). -/
def State.retire (s : State) : State := { s with busy := false, done := true }

/-- The code of a cause (60_exceptions.md R261). -/
def Cause.code : Cause → BitVec 4
  | .illcmd => 1
  | .uzero => 2
  | .range => 3
  | .divzero => 4

/-- Fault entry, exactly the five writes of 60_exceptions.md R262. -/
def State.enterFault (s : State) (c : Cause) : State :=
  { s with busy := false, done := false, err := true, cause := c.code, ecmd := s.pend }

/-- The return from a fault, exactly the five writes of 45_system.md R250. -/
def State.acknowledge (s : State) : State :=
  { s with done := false, err := false, ovr := false, cause := 0, ecmd := 0 }

/-- The turns still to come. -/
def State.setSchedule (s : State) (ts : List Turn) : State := { s with schedule := ts }

/-- The answer to the latest host access. -/
def State.setResp (s : State) (r : Response) : State := { s with resp := r }

/-- `raise Fault(cause)` (00_scope.md R10): the command ends with the fault entry and none of its own writes. -/
def raise (c : Cause) (s : State) : Result := .next (s.enterFault c)

/-- A completion without fault: the command's writes are in `s`, and BUSY and DONE follow (10_state.md R41). -/
def finish (s : State) : Result := .next s.retire

/-- A check that raises before any register write (60_exceptions.md R263). -/
def guardFault (bad : Bool) (c : Cause) (s : State) (good : Result) : Result :=
  if bad then raise c s else good

end Sys2Proof.Machine
end

