-- ==== Sys2Proof/Machine/Rom.lean ====
section
/-! DEFINITION. The constants of the hardware: the two ROMs (10_state.md R43, 41_primality.md R141,
42_construction.md R171) and the identifier (10_state.md R31). -/

namespace Sys2Proof.Machine

/-- `ID_VALUE` (10_state.md R31). -/
def idValue : Word := 0x5152504500000001#64

/-- The small-prime ROM `SMALL[0..54]` (41_primality.md R141). -/
def smallPrimes : List Nat :=
  [2, 3, 5, 7, 11, 13, 17, 19, 23, 29,
   31, 37, 41, 43, 47, 53, 59, 61, 67, 71,
   73, 79, 83, 89, 97, 101, 103, 107, 109, 113,
   127, 131, 137, 139, 149, 151, 157, 163, 167, 173,
   179, 181, 191, 193, 197, 199, 211, 223, 227, 229,
   233, 239, 241, 251, 257]

/-- The common-universe ROM `TABLE[0..15]`, pairs of universe and prime (42_construction.md R171). -/
def commonUniverseTable : List (Nat × Nat) :=
  [(65534, 65519),
   (65535, 65519),
   (16777214, 16777199),
   (16777215, 16777199),
   (4294967294, 4294967291),
   (4294967295, 4294967291),
   (1099511627774, 1099511627563),
   (1099511627775, 1099511627563),
   (281474976710654, 281474976710591),
   (281474976710655, 281474976710591),
   (72057594037927934, 72057594037927931),
   (72057594037927935, 72057594037927931),
   (9223372036854775806, 9223372036854775783),
   (9223372036854775807, 9223372036854775783),
   (18446744073709551614, 18446744073709551427),
   (18446744073709551615, 18446744073709551427)]

end Sys2Proof.Machine
end

