-- ==== Sys2Proof/Machine/Number.lean ====
section
/-! DEFINITION. The number-theoretic functions on exact natural numbers (00_scope.md R9): the square roots of
40_isqrt.md, the primality test and the prime predecessor of 41_primality.md, as the rules' own algorithms. -/

namespace Sys2Proof.Machine

/-- `bit_width` (00_scope.md R9). -/
def bitWidth (x : Nat) : Nat := if x = 0 then 0 else Nat.log2 x + 1

/-- The stages for bit pairs `e - 1` down to 0, from root candidate `r` (40_isqrt.md R121, R122). -/
def isqrtLoop (x : Nat) : Nat → Nat → Nat
  | 0, r => r
  | e + 1, r =>
    isqrtLoop x e (if (2 * r + 1) * (2 * r + 1) ≤ x >>> (2 * e) then 2 * r + 1 else 2 * r)

/-- `isqrt_floor` (40_isqrt.md R121). -/
def isqrtFloor (x : Nat) : Nat :=
  if x < 4 then (if x > 0 then 1 else 0) else isqrtLoop x ((bitWidth x - 1) / 2) 1

/-- `isqrt_floor` as the fixed pipeline of 32 stages (40_isqrt.md R122). No command uses it. -/
def isqrtPipeline (x : Nat) : Nat := isqrtLoop x 32 0

/-- `isqrt_ceil` (40_isqrt.md R123). -/
def isqrtCeil (x : Nat) : Nat :=
  if isqrtFloor x * isqrtFloor x < x then isqrtFloor x + 1 else isqrtFloor x

/-- The table loop of `is_prime` (41_primality.md R142): an answer, or `none` when the table runs out. -/
def tableScan (p m : Nat) : List Nat → Option Bool
  | [] => none
  | d :: ds => if d > m then some true else if p % d = 0 then some false else tableScan p m ds

/-- The wheel of `is_prime` (41_primality.md R142), with a bound on its passes (log entry 11). -/
def wheel (p m : Nat) : Nat → Nat → Bool
  | 0, _ => true
  | fuel + 1, i =>
    if i ≤ m then
      if p % i = 0 then false
      else if i + 2 ≤ m ∧ p % (i + 2) = 0 then false
      else wheel p m fuel (i + 6)
    else true

/-- `is_prime` (41_primality.md R142). The table scan starts at `SMALL[1]`. -/
def isPrime (p : Nat) : Bool :=
  if p % 2 = 0 then false
  else
    match tableScan p (isqrtCeil p) (smallPrimes.drop 1) with
    | some b => b
    | none => wheel p (isqrtCeil p) (isqrtCeil p) 5

/-- The descent of `prime_pred` from an odd `p` (41_primality.md R151), with a bound (log entry 11). -/
def descend : Nat → Nat → Nat
  | 0, p => p
  | fuel + 1, p => if isPrime p then p else descend fuel (p - 2)

/-- `prime_pred` (41_primality.md R151). -/
def primePred (p : Nat) : Nat :=
  if p = 0 then 0
  else if p = 2 then 2
  else descend p (if p % 2 = 0 then p - 1 else p)

end Sys2Proof.Machine
end

