-- ==== Sys2Proof/Machine/Datapath.lean ====
section
/-! DEFINITION. Prime selection and seed mixing (42_construction.md), the modular square, the core mapping and the
evaluation (43_mapping.md), on exact natural numbers (00_scope.md R9). -/

namespace Sys2Proof.Machine

/-- `lookup` (42_construction.md R172). -/
def lookup (u : Nat) : Option Nat := commonUniverseTable.lookup u

/-- The walk of `search` down the primes (42_construction.md R175), with a bound (log entry 11). -/
def searchLoop : Nat → Nat → Nat
  | 0, _ => 0
  | fuel + 1, p => if p % 4 = 3 then p else if p = 0 then 0 else searchLoop fuel (primePred (p - 1))

/-- `search` (42_construction.md R175). -/
def search (u : Nat) : Nat := searchLoop (u + 1) (primePred u)

/-- `select_prime` (42_construction.md R176): the prime and the table hit. -/
def selectPrime (u : Nat) (nt : Bool) : Nat × Bool :=
  if nt then (search u, false)
  else
    match lookup u with
    | some p => (p, true)
    | none => (search u, false)

/-- `mix` (42_construction.md R186). -/
def mix (s : Word) : Word := (s ^^^ Config.shuffle1) ^^^ Config.shuffle2

/-- `modsq`, on the exact square (43_mapping.md R200). -/
def modsq (x m : Nat) : Nat := (x * x) % m

/-- `permute` for the instance with prime `p` (43_mapping.md R204). -/
def permute (p x : Nat) : Nat :=
  if x ≥ p then x
  else if x ≤ p >>> 1 then modsq x p
  else p - modsq x p

/-- `evaluate` for the instance `(u, sd, p)`, on the exact sum (43_mapping.md R208, R209). -/
def evaluate (u sd p i : Nat) : Nat := permute p ((sd + permute p i) % u)

end Sys2Proof.Machine
end

