-- ==== Sys2Proof/Machine/Operands.lean ====
section
/-! DEFINITION. The operands of the commands: registers only, no immediates and no addressing modes
(30_encoding.md R94), and which command reads which (10_state.md R33). -/

namespace Sys2Proof.Machine

/-- A place a command takes a data operand from (30_encoding.md R94). -/
inductive Operand where
  | arg0
  | arg1
  | univ
  | seed
  | prime
  | cursor (k : Fin Config.numCursors)
deriving DecidableEq, Repr

/-- The register's content at issue (00_scope.md R10). -/
def Operand.word (o : Operand) (s : State) : Word :=
  match o with
  | .arg0 => s.arg0
  | .arg1 => s.arg1
  | .univ => s.univ
  | .seed => s.seed
  | .prime => s.prime
  | .cursor k => s.cur[k]

/-- The operand as an unsigned integer (00_scope.md R8, R9). -/
def Operand.value (o : Operand) (s : State) : Nat := (o.word s).toNat

/-- The "reads" column of 10_state.md R33. -/
def reads : Instr → List Operand
  | .isqrtf | .isqrtc | .isprime | .ppred | .selprime | .selprimeNt => [.arg0]
  | .construct | .constructNt => [.arg0, .arg1]
  | .defaultInstance => []
  | .modsq => [.arg0, .arg1]
  | .permute => [.arg0, .univ, .prime]
  | .eval => [.arg0, .univ, .seed, .prime]
  | .seqstart _ => [.arg0, .univ]
  | .seqnext k => [.cursor k, .univ, .seed, .prime]
  | .ack => []

end Sys2Proof.Machine
end

