-- ==== Sys2Proof/Machine/Construction.lean ====
section
/-! DEFINITION. SELPRIME, SELPRIME.NT, CONSTRUCT, CONSTRUCT.NT and DEFAULT (42_construction.md R181, R182, R187,
R188, R189). -/

namespace Sys2Proof.Machine

/-- The selected prime goes to RES and the table hit to TH (42_construction.md R181). -/
def State.setSelection (s : State) (sel : Nat × Bool) : State := (s.setRes (narrow sel.1)).setTh sel.2

/-- A new instance with all cursors at 0 (42_construction.md R187, R189). -/
def State.install (s : State) (u sd p : Word) : State := (s.setInstance u sd p).clearCursors

/-- Construction with or without the table (42_construction.md R187, R188). -/
def constructWith (nt : Bool) (s : State) : Result :=
  guardFault (Operand.arg0.value s == 0) .uzero s
    (finish
      ((s.install (Operand.arg0.word s) (mix (Operand.arg1.word s))
          (narrow (selectPrime (Operand.arg0.value s) nt).1)).setSelection
        (selectPrime (Operand.arg0.value s) nt)))

/-- SELPRIME (42_construction.md R181). -/
def execSelprime (s : State) : Result := finish (s.setSelection (selectPrime (Operand.arg0.value s) false))

/-- SELPRIME.NT (42_construction.md R182). -/
def execSelprimeNt (s : State) : Result := finish (s.setSelection (selectPrime (Operand.arg0.value s) true))

/-- CONSTRUCT (42_construction.md R187). -/
def execConstruct (s : State) : Result := constructWith false s

/-- CONSTRUCT.NT (42_construction.md R188). -/
def execConstructNt (s : State) : Result := constructWith true s

/-- DEFAULT (42_construction.md R189): the seed is not mixed, RES and the flags stay. -/
def execDefault (s : State) : Result := finish (s.install 1 0 0)

end Sys2Proof.Machine
end

