-- ==== Sys2Proof/Machine/Isqrt.lean ====
section
/-! DEFINITION. ISQRTF and ISQRTC (40_isqrt.md R124, R125). -/

namespace Sys2Proof.Machine

/-- ISQRTF (40_isqrt.md R124). -/
def execIsqrtf (s : State) : Result := finish (s.setRes (narrow (isqrtFloor (Operand.arg0.value s))))

/-- ISQRTC (40_isqrt.md R125). -/
def execIsqrtc (s : State) : Result := finish (s.setRes (narrow (isqrtCeil (Operand.arg0.value s))))

end Sys2Proof.Machine
end

