-- ==== Sys2Proof/Machine/Mapping.lean ====
section
/-! DEFINITION. MODSQ, PERMUTE and EVAL (43_mapping.md R203, R206, R210). -/

namespace Sys2Proof.Machine

/-- `evaluate(i)` of the current instance (43_mapping.md R208). -/
def State.evaluateAt (s : State) (i : Nat) : Nat :=
  evaluate (Operand.univ.value s) (Operand.seed.value s) (Operand.prime.value s) i

/-- MODSQ (43_mapping.md R203). -/
def execModsq (s : State) : Result :=
  guardFault (Operand.arg1.value s == 0) .divzero s
    (finish (s.setRes (narrow (modsq (Operand.arg0.value s) (Operand.arg1.value s)))))

/-- PERMUTE (43_mapping.md R206). -/
def execPermute (s : State) : Result :=
  guardFault (decide (Operand.arg0.value s ≥ Operand.univ.value s)) .range s
    (finish (s.setRes (narrow (permute (Operand.prime.value s) (Operand.arg0.value s)))))

/-- EVAL (43_mapping.md R210). -/
def execEval (s : State) : Result :=
  guardFault (decide (Operand.arg0.value s ≥ Operand.univ.value s)) .range s
    (finish (s.setRes (narrow (s.evaluateAt (Operand.arg0.value s)))))

end Sys2Proof.Machine
end

