-- ==== Sys2Proof/Machine/Flags.lean ====
section
/-! DEFINITION. The flags and the words assembled from them: EXH (10_state.md R25), STATUS (R26), CTRL
(20_memory.md R63) and the interrupt line (60_exceptions.md R270). There are no condition codes (10_state.md R25). -/

namespace Sys2Proof.Machine

/-- A flag as one bit. -/
def bit (b : Bool) : BitVec 1 := BitVec.ofBool b

/-- A Boolean result in a register: 1 or 0, zero-extended (41_primality.md R150). -/
def boolWord (b : Bool) : Word := if b then 1 else 0

/-- `STATUS.EXH[k]`, not stored: `CUR[k] = UNIVERSE` (10_state.md R25). -/
def State.exhausted (s : State) (k : Fin Config.numCursors) : Bool := s.cur[k] == s.univ

/-- `EXH[3:0]` (10_state.md R26). -/
def State.exhaustedBits (s : State) : BitVec 4 :=
  bit (s.exhausted 3) ++ bit (s.exhausted 2) ++ bit (s.exhausted 1) ++ bit (s.exhausted 0)

/-- `STATUS` as read (10_state.md R26), most significant field first. -/
def State.statusWord (s : State) : Word :=
  0#44 ++ s.cause ++ 0#4 ++ s.exhaustedBits ++ 0#2 ++ bit s.th ++ bit s.pf ++ bit s.ovr ++ bit s.err ++
    bit s.done ++ bit s.busy

/-- `CTRL` as read (20_memory.md R63). -/
def State.ctrlWord (s : State) : Word := 0#62 ++ bit s.ieErr ++ bit s.ieDone

/-- The interrupt output, level-sensitive, not state (60_exceptions.md R270). -/
def State.irq (s : State) : Bool := (s.done && s.ieDone) || (s.err && s.ieErr)

end Sys2Proof.Machine
end

