-- ==== Sys2Proof/Machine/Primality.lean ====
section
/-! DEFINITION. ISPRIME and PPRED (41_primality.md R150, R155). -/

namespace Sys2Proof.Machine

/-- The verdict goes to the flag and to the result register (41_primality.md R150). -/
def State.setVerdict (s : State) (b : Bool) : State := (s.setPf b).setRes (boolWord b)

/-- ISPRIME (41_primality.md R150). -/
def execIsprime (s : State) : Result := finish (s.setVerdict (isPrime (Operand.arg0.value s)))

/-- PPRED (41_primality.md R155). -/
def execPpred (s : State) : Result := finish (s.setRes (narrow (primePred (Operand.arg0.value s))))

end Sys2Proof.Machine
end

