-- ==== Sys2Proof/Machine/Sequence.lean ====
section
/-! DEFINITION. SEQSTART and SEQNEXT (44_sequence.md R232, R233). -/

namespace Sys2Proof.Machine

/-- SEQSTART k (44_sequence.md R232). -/
def execSeqstart (k : Fin Config.numCursors) (s : State) : Result :=
  guardFault (decide (Operand.arg0.value s > Operand.univ.value s)) .range s
    (finish (s.setCursor k (Operand.arg0.word s)))

/-- SEQNEXT k (44_sequence.md R233): the value is for the cursor before the increment. -/
def execSeqnext (k : Fin Config.numCursors) (s : State) : Result :=
  guardFault (decide ((Operand.cursor k).value s ≥ Operand.univ.value s)) .range s
    (finish
      ((s.setRes (narrow (s.evaluateAt ((Operand.cursor k).value s)))).setCursor k
        (narrow ((Operand.cursor k).value s + 1))))

end Sys2Proof.Machine
end

