-- ==== Sys2Proof/Machine/System.lean ====
section
/-! DEFINITION. ACK, the return from a fault (45_system.md R250). -/

namespace Sys2Proof.Machine

/-- ACK (45_system.md R250): performed by the write to CMD itself, so it neither retires nor reads PEND; written
while BUSY = 1 it is dropped. -/
def execAck (s : State) : Result := if s.busy then .next s.dropWrite else .next s.acknowledge

end Sys2Proof.Machine
end

