-- ==== Sys2Proof/Machine/Dispatch.lean ====
section
/-! DEFINITION. The meaning of every command: a command at the state of its issue gives the state after its
completion (10_state.md R41), and ACK at the state of its write (45_system.md R250). -/

namespace Sys2Proof.Machine

def exec (i : Instr) (s : State) : Host.Outcome State Fault Refusal :=
  match i with
  | .isqrtf => Sys2Proof.Machine.execIsqrtf s
  | .isqrtc => Sys2Proof.Machine.execIsqrtc s
  | .isprime => Sys2Proof.Machine.execIsprime s
  | .ppred => Sys2Proof.Machine.execPpred s
  | .selprime => Sys2Proof.Machine.execSelprime s
  | .selprimeNt => Sys2Proof.Machine.execSelprimeNt s
  | .modsq => Sys2Proof.Machine.execModsq s
  | .construct => Sys2Proof.Machine.execConstruct s
  | .constructNt => Sys2Proof.Machine.execConstructNt s
  | .defaultInstance => Sys2Proof.Machine.execDefault s
  | .permute => Sys2Proof.Machine.execPermute s
  | .eval => Sys2Proof.Machine.execEval s
  | .seqstart k => Sys2Proof.Machine.execSeqstart k s
  | .seqnext k => Sys2Proof.Machine.execSeqnext k s
  | .ack => Sys2Proof.Machine.execAck s

end Sys2Proof.Machine
end

