-- ==== Sys2Proof/Machine/Engine.lean ====
section
/-! DEFINITION. The engine's one step, the completion of the pending command (10_state.md R41). -/

namespace Sys2Proof.Machine

/-- Completion: PEND is decoded in full; an illegal word faults ILLCMD, and ACK is treated as illegal here
(30_encoding.md R96). -/
def completePending (s : State) : Result :=
  match decode s.pend with
  | .error _ => raise .illcmd s
  | .ok .ack => raise .illcmd s
  | .ok i => exec i s

/-- The engine's turn: its step is enabled exactly when BUSY = 1 (10_state.md R41); else nothing happens
(log entry 2). -/
def engineTurn (s : State) : Result := if s.busy then completePending s else .next s

end Sys2Proof.Machine
end

