-- ==== Sys2Proof/Machine/Window.lean ====
section
/-! DEFINITION. The register window: the map (20_memory.md R61), which accesses are admitted (R62), reads (R63),
writes (R64 to R68) and the byte lanes (R69). -/

namespace Sys2Proof.Machine

/-- The sixteen locations (20_memory.md R61). -/
inductive Loc where
  | id
  | ctrl
  | status
  | cmd
  | arg0
  | arg1
  | res
  | ecmd
  | univ
  | seed
  | prime
  | reserved
  | cur (k : Fin Config.numCursors)
deriving DecidableEq, Repr

/-- The map in the order of the offsets (20_memory.md R61). -/
def locations : List Loc :=
  [.id, .ctrl, .status, .cmd, .arg0, .arg1, .res, .ecmd, .univ, .seed, .prime, .reserved,
   .cur 0, .cur 1, .cur 2, .cur 3]

/-- The offset lies in the window (20_memory.md R60). -/
def inWindow (off : Nat) : Bool := decide (off < Config.windowBytes)

/-- The location an offset selects, by its bits 6:3 (20_memory.md R61). -/
def locationAt (off : Nat) : Loc := locations.getD (off / 8) .reserved

/-- The only admitted access: 64 bits wide, at a multiple of 8, in the window (20_memory.md R62). -/
def admitted (size : AccessSize) (off : Nat) : Bool :=
  inWindow off && decide (off % 8 = 0) && (size == .b64)

/-- The value `RegRead` returns (20_memory.md R63). -/
def regValue (s : State) : Loc → Word
  | .id => idValue
  | .ctrl => s.ctrlWord
  | .status => s.statusWord
  | .cmd => 0
  | .arg0 => s.arg0
  | .arg1 => s.arg1
  | .res => s.res
  | .ecmd => s.ecmd
  | .univ => s.univ
  | .seed => s.seed
  | .prime => s.prime
  | .reserved => 0
  | .cur k => s.cur[k]

/-- The byte on lane `n`: bits `8n+7 : 8n` (20_memory.md R69). -/
def laneByte (v : Word) (n : Nat) : Byte := v.extractLsb' (8 * n) 8

/-- The byte the window shows at a byte offset, for the integrator (20_memory.md R69); no access reads one. -/
def windowByte (s : State) (off : Nat) : Byte := laneByte (regValue s (locationAt off)) (off % 8)

/-- A write the hardware answers with its normal response (20_memory.md R66). -/
def answered : Result → Result
  | .next s => .next (s.setResp .ok)
  | .fault f => .fault f
  | .refused r => .refused r

/-- A write to an operand register: dropped while BUSY = 1 (20_memory.md R64, R66). -/
def writeOperand (s written : State) : Result := if s.busy then .next s.dropWrite else .next written

/-- The command port by case, first match wins (20_memory.md R67): busy, ACK, fault state, issue. -/
def writeCommand (s : State) (v : Word) : Result :=
  if s.busy then .next s.dropWrite
  else if v = ackWord then exec .ack s
  else if s.err then .next s.dropWrite
  else .next (s.issue v)

/-- `RegWrite` of an admitted access (20_memory.md R64 to R68). Writes to read-only locations are ignored. -/
def regWrite (s : State) (l : Loc) (v : Word) : Result :=
  match l with
  | .ctrl => .next (s.setCtrl v)
  | .cmd => writeCommand s v
  | .arg0 => writeOperand s (s.setArg0 v)
  | .arg1 => writeOperand s (s.setArg1 v)
  | .id | .status | .res | .ecmd | .univ | .seed | .prime | .reserved | .cur _ => .next s

/-- The host's read: outside the window it is no access of the block (log entry 5); refused, it is answered with
the error response and no data (20_memory.md R62, log entry 4); admitted, it changes nothing (R63). -/
def hostRead (s : State) (size : AccessSize) (off : Nat) : Result :=
  if inWindow off then
    if admitted size off then .next (s.setResp (.data (regValue s (locationAt off))))
    else .next (s.setResp .error)
  else .fault .outsideWindow

/-- The host's write, with the same admission (20_memory.md R62). -/
def hostWrite (s : State) (size : AccessSize) (off : Nat) (v : Word) : Result :=
  if inWindow off then
    if admitted size off then answered (regWrite s (locationAt off) v)
    else .next (s.setResp .error)
  else .fault .outsideWindow

end Sys2Proof.Machine
end

