-- ==== Sys2Proof/Machine/Turns.lean ====
section
/-! DEFINITION. One turn of one agent (00_scope.md R6, R7), and which agent moves next. -/

namespace Sys2Proof.Machine

/-- Reset (70_reset_and_hazards.md R300, R301): the reset state, whatever the state; the turns to come stay
(log entry 8). -/
def applyReset (s : State) : State := State.reset.setSchedule s.schedule

/-- What a turn does to the block. -/
def takeTurn (t : Turn) (s : State) : Result :=
  match t with
  | .read size off => hostRead s size off
  | .write size off v => hostWrite s size off v
  | .engine => engineTurn s
  | .reset => .next (applyReset s)

/-- The next turn is the schedule's first; with nothing scheduled it is the engine's (00_scope.md R7, log
entries 1, 2 and 3). -/
def advance (s : State) : Result :=
  match s.schedule with
  | [] => engineTurn s
  | t :: rest => takeTurn t (s.setSchedule rest)

/-- The state in which the very next step runs the command with value `v`: for ACK the host's write to CMD comes
next and the engine is idle; any other command is issued and the engine moves next (log entry 14). -/
def presentCommand (s : State) (v : Word) : State :=
  if v = ackWord then { s with busy := false, schedule := .write .b64 0x18 v :: s.schedule }
  else (s.issue v).setSchedule (.engine :: s.schedule)

end Sys2Proof.Machine
end

