-- ==== Sys2Proof/Machine/Step.lean ====
section
/-! DEFINITION. One step of the machine: one turn of the host, of the engine or of reset (00_scope.md R6, R11). -/

namespace Sys2Proof.Machine

/-- One step. -/
def step (s : State) : Host.Outcome State Fault Refusal := advance s

/-- `s` with an opcode-table row's bits placed so that the very next step runs that command (log entry 14). -/
def State.withFetchWord (s : State) (nbits w : Nat) : State := presentCommand s (tableValue nbits w)

end Sys2Proof.Machine
end

