-- ==== Sys2Proof/Safety.lean ====
section
/-! DEFINITION. The terms in which claims speak: what the spec promises of every reachable state, what a fault entry
leaves, the datapath at the rules' own widths, and which agent a step is of. -/

namespace Sys2Proof.Machine

/-- The prime the closed form of 42_construction.md (R180) gives for universe `u`: 0 up to 2, and from 3 on the
largest prime not above `u` that is 3 modulo 4. -/
def SelectedPrime (u p : Nat) : Prop :=
  (u ≤ 2 ∧ p = 0) ∨ (3 ≤ u ∧ IsGreatest {q : Nat | q.Prime ∧ q % 4 = 3 ∧ q ≤ u} p)

/-- The 16 universes of the common-universe table, by their formula (42_construction.md R170). -/
def TableKey (u : Nat) : Prop := ∃ k ∈ [16, 24, 32, 40, 48, 56, 63, 64], u = 2 ^ k - 2 ∨ u = 2 ^ k - 1

/-- What 10_state.md R23 says of the engine instance in every reachable state. -/
structure State.InstanceOk (s : State) : Prop where
  univ_pos : 1 ≤ s.univ.toNat
  prime_selected : SelectedPrime s.univ.toNat s.prime.toNat

/-- What 10_state.md R24 says of the cursors in every reachable state. -/
def State.CursorsOk (s : State) : Prop := ∀ k : Fin Config.numCursors, s.cur[k].toNat ≤ s.univ.toNat

/-- What 10_state.md R27, R28, R32 and R41, 30_encoding.md R96 and 60_exceptions.md R261, R265 say of the status in every
reachable state. -/
structure State.StatusOk (s : State) : Prop where
  busy_not_done : s.busy = true → s.done = false
  err_quiescent : s.err = true → s.busy = false ∧ s.done = false
  err_cause : s.err = true → 1 ≤ s.cause.toNat ∧ s.cause.toNat ≤ 4
  no_err_clear : s.err = false → s.cause = 0 ∧ s.ecmd = 0
  pend_not_ack : s.busy = true → s.pend ≠ ackWord

/-- The invariant of every reachable state. -/
structure State.Inv (s : State) : Prop where
  instance_ok : s.InstanceOk
  cursors_ok : s.CursorsOk
  status_ok : s.StatusOk

/-- A safe next step: the machine does not stop. -/
def State.SafeStep (s : State) : Prop := ∃ t, step s = .next t

/-- `n` steps, stopping at the first stop. -/
def runSteps : Nat → State → Result
  | 0, s => .next s
  | n + 1, s =>
    match step s with
    | .next t => runSteps n t
    | .fault f => .fault f
    | .refused r => .refused r

/-- The fault entry of 60_exceptions.md R262, written out. -/
def faultEntry (s : State) (code : BitVec 4) : State :=
  { s with busy := false, done := false, err := true, cause := code, ecmd := s.pend }

/-- The operand checks of the table of causes (60_exceptions.md R261). -/
def expectedFault (i : Instr) (s : State) : Option (BitVec 4) :=
  match i with
  | .construct | .constructNt => if s.arg0 = 0 then some 2 else none
  | .eval | .permute => if s.univ ≤ s.arg0 then some 3 else none
  | .seqnext k => if s.univ ≤ s.cur[k] then some 3 else none
  | .seqstart _ => if s.univ < s.arg0 then some 3 else none
  | .modsq => if s.arg1 = 0 then some 4 else none
  | .isqrtf | .isqrtc | .isprime | .ppred | .selprime | .selprimeNt | .defaultInstance | .ack => none

/-- The modular square at the width of 43_mapping.md R203: a 128-bit product and remainder. -/
def modsqWord (x m : Word) : Word := ((x.setWidth 128 * x.setWidth 128) % m.setWidth 128).setWidth 64

/-- The core mapping at register width (43_mapping.md R204). -/
def permuteWord (p x : Word) : Word :=
  if p ≤ x then x else if x ≤ p >>> 1 then modsqWord x p else p - modsqWord x p

/-- The evaluation with the 65-bit sum of 43_mapping.md R208. -/
def evaluateWord (u sd p i : Word) : Word :=
  permuteWord p (((sd.setWidth 65 + (permuteWord p i).setWidth 65) % u.setWidth 65).setWidth 64)

/-- The value is illegal (30_encoding.md R96, R97). -/
def IllegalWord (v : Word) : Prop := ∃ e, decode v = .error e

/-- The turn of the next step, which is the engine's when nothing is scheduled (log entry 3). -/
def State.nextTurn (s : State) : Turn := s.schedule.headD .engine

/-- The next step is the completion of command `i` (10_state.md R41). -/
def State.Completes (s : State) (i : Instr) : Prop :=
  s.nextTurn = .engine ∧ s.busy = true ∧ decode s.pend = .ok i

/-- A host access inside the window, admitted or refused. -/
def HostTurn : Turn → Prop
  | .read _ off => off < Config.windowBytes
  | .write _ off _ => off < Config.windowBytes
  | .engine | .reset => False

/-- The values `n` SEQNEXT commands on cursor `k` yield one after the other, and the state they leave; `none` when
one of them does not complete (44_sequence.md R230). -/
def yields (k : Fin Config.numCursors) : Nat → State → Option (List Word × State)
  | 0, s => some ([], s)
  | n + 1, s =>
    match exec (.seqnext k) s with
    | .next t => if t.done then (yields k n t).map fun r => (t.res :: r.1, r.2) else none
    | .fault _ => none
    | .refused _ => none

/-- The commands whose completion writes RES (10_state.md R21). -/
def writesRes : Instr → Bool
  | .isqrtf | .isqrtc | .isprime | .ppred | .selprime | .selprimeNt | .modsq | .construct | .constructNt
  | .permute | .eval | .seqnext _ => true
  | .defaultInstance | .seqstart _ | .ack => false

/-- The commands whose completion writes the instance and clears the cursors (10_state.md R23, R24). -/
def writesInstance : Instr → Bool
  | .construct | .constructNt | .defaultInstance => true
  | .isqrtf | .isqrtc | .isprime | .ppred | .selprime | .selprimeNt | .modsq | .permute | .eval | .seqnext _
  | .seqstart _ | .ack => false

/-- The commands whose completion writes TH (10_state.md R25). -/
def writesTh : Instr → Bool
  | .selprime | .selprimeNt | .construct | .constructNt => true
  | .isqrtf | .isqrtc | .isprime | .ppred | .modsq | .defaultInstance | .permute | .eval | .seqnext _
  | .seqstart _ | .ack => false

/-- The commands whose completion writes cursor `k` (10_state.md R24, 44_sequence.md R231). -/
def writesCursor (i : Instr) (k : Fin Config.numCursors) : Bool :=
  writesInstance i || i == .seqstart k || i == .seqnext k

end Sys2Proof.Machine
end

