-- ==== Sys2Proof/Certificates/Slice0/Obligations.lean ====
section
/-! DEFINITION. The statements for the provers, one per `Obligations.<Name>`, in the order of OBLIGATIONS.json. A result is
given as the whole next state, so each such statement is also the command's frame: every field not named keeps its
value. -/

open Sys2Proof Sys2Proof.Machine

/-- 10_state.md R50: every register after reset but PEND (unspecified), and the derived values. -/
def Obligations.ResetStateAsListed : Prop :=
  State.reset.arg0 = 0 ∧ State.reset.arg1 = 0 ∧ State.reset.res = 0 ∧ State.reset.univ = 1 ∧
  State.reset.seed = 0 ∧ State.reset.prime = 0 ∧ (∀ k : Fin 4, State.reset.cur[k] = 0) ∧
  State.reset.busy = false ∧ State.reset.done = false ∧ State.reset.err = false ∧ State.reset.ovr = false ∧
  State.reset.pf = false ∧ State.reset.th = false ∧ State.reset.cause = 0 ∧ State.reset.ecmd = 0 ∧
  State.reset.ieDone = false ∧ State.reset.ieErr = false ∧
  (∀ k, State.reset.exhausted k = false) ∧ State.reset.statusWord = 0 ∧ State.reset.irq = false ∧
  regValue State.reset .id = 0x5152504500000001#64

/-- 70_reset_and_hazards.md R301: reset leads to the reset state from every state, so that a pending command is abandoned
with none of its writes and no fault, and reset is the only way to end a command other than its completion. Of PEND, `resp`
and `schedule` (log entries 6, 8 and 1: the model's choices) nothing is said. -/
def Obligations.ResetFromEveryState : Prop :=
  (∀ (s : State) (rest : List Turn), ∃ t,
    step { s with schedule := .reset :: rest } = .next t ∧
    { t with pend := 0, resp := .none, schedule := [] } =
      { State.reset with pend := 0, resp := .none, schedule := [] }) ∧
  (∀ s t : State, s.busy = true → step s = .next t → t.busy = false →
    s.nextTurn = .reset ∨ s.nextTurn = .engine)

/-- A step runs the decoded command: the engine's turn of a busy block is `exec` of what PEND decodes to
(10_state.md R41), and the host's write of the ACK word to an idle block is `exec .ack` with the normal response
(20_memory.md R67). That the engine's turn comes when nothing is scheduled is the model's choice (log entry 3). -/
def Obligations.StepRunsTheDecodedCommand : Prop :=
  (∀ (s : State) (i : Instr), i.wellFormed = true → s.busy = true → decode s.pend = .ok i → i ≠ .ack →
    (s.schedule = [] → step s = exec i s) ∧
    (∀ rest, s.schedule = .engine :: rest → step s = exec i { s with schedule := rest })) ∧
  (∀ (s : State) (rest : List Turn), s.busy = false → s.schedule = .write .b64 0x18 0xF#64 :: rest →
    decode 0xF#64 = .ok .ack ∧
    ∃ t, exec .ack { s with schedule := rest } = .next t ∧ step s = .next { t with resp := .ok })

/-- 10_state.md R41, 30_encoding.md R100: the host writes a command's word to CMD of an idle block, the engine completes
it: the meaning is applied to the state of the issue. -/
def Obligations.IssueThenComplete : Prop :=
  ∀ (s : State) (i : Instr), i ≠ .ack → s.busy = false → s.err = false →
    runSteps 2 { s with schedule := [.write .b64 0x18 (encode i), .engine] } =
      exec i { s with pend := encode i, busy := true, done := false, schedule := [], resp := .ok }

/-- 30_encoding.md R97: an illegal value issued to an idle block faults ILLCMD with ECMD the whole value and changes
nothing else; and which values that covers. -/
def Obligations.IllegalCommandsFault : Prop :=
  (∀ (s : State) (v : Word), IllegalWord v → s.busy = false → s.err = false →
    runSteps 2 { s with schedule := [.write .b64 0x18 v, .engine] } =
      .next { s with pend := v, busy := false, done := false, err := true, cause := 1, ecmd := v,
                     schedule := [], resp := .ok }) ∧
  (∀ v : Word, 2 ^ 32 ≤ v.toNat → IllegalWord v) ∧
  (∀ (v : Word) (f : Format), opcodeFormats.lookup (v.setWidth 8) = some f →
    commandBits v &&& f.mustBeZero ≠ 0 → IllegalWord v) ∧
  (∀ v : Word, v.toNat % 256 ∈ [0x00, 0x06, 0x07, 0x0E] ∨ 0x10 ≤ v.toNat % 256 → IllegalWord v) ∧
  IllegalWord 0

/-- Decoding and encoding are inverse to each other: on every command, and on every one of the 2^64 values the decoder
accepts (30_encoding.md R90 to R96; the encoder is the model's own, written from the same formats). -/
def Obligations.DecodeEncodeInverse : Prop :=
  (∀ i : Instr, i.wellFormed = true → decode (encode i) = .ok i) ∧
  (∀ (v : Word) (i : Instr), decode v = .ok i → v = encode i)

/-- The 21 legal command words with their commands, written from the opcode map (30_encoding.md R95). -/
def Sys2Proof.Machine.legalCommands : List (Word × Instr) :=
  [(0x00000001#64, .isqrtf), (0x00000101#64, .isqrtc), (0x00000002#64, .isprime), (0x00000003#64, .ppred),
   (0x00000004#64, .selprime), (0x00000104#64, .selprimeNt), (0x00000005#64, .modsq),
   (0x00000008#64, .construct), (0x00000108#64, .constructNt), (0x00000009#64, .defaultInstance),
   (0x0000000A#64, .permute), (0x0000000B#64, .eval),
   (0x0000000C#64, .seqstart 0), (0x0000040C#64, .seqstart 1), (0x0000080C#64, .seqstart 2),
   (0x00000C0C#64, .seqstart 3),
   (0x0000000D#64, .seqnext 0), (0x0000040D#64, .seqnext 1), (0x0000080D#64, .seqnext 2),
   (0x00000C0D#64, .seqnext 3), (0x0000000F#64, .ack)]

/-- 30_encoding.md R95: exactly 21 values are legal, each with the mnemonic of its row; every other is illegal. -/
def Obligations.LegalCommandsAreThe21 : Prop :=
  legalCommands.length = 21 ∧ (legalCommands.map Prod.fst).Nodup ∧
  ∀ (v : Word) (i : Instr), decode v = .ok i ↔ (v, i) ∈ legalCommands

/-- A few words from the opcode map, one per family, decode to their commands (30_encoding.md R95). -/
def Obligations.DecodingSamples : Prop :=
  decode 0x00000101#64 = .ok .isqrtc ∧ decode 0x00000003#64 = .ok .ppred ∧
  decode 0x00000104#64 = .ok .selprimeNt ∧ decode 0x00000008#64 = .ok .construct ∧
  decode 0x0000000A#64 = .ok .permute ∧ decode 0x0000080D#64 = .ok (.seqnext 2) ∧
  decode 0x0000000F#64 = .ok .ack

/-- The decoder accepts exactly the words that the formats admit (30_encoding.md R90 to R93). -/
def Obligations.DecoderAcceptsWellFormedWords : Prop :=
  ∀ v : Word, (∃ i, decode v = .ok i) ↔ wellFormedWord v = true

/-- 40_isqrt.md R120, R124: ISQRTF leaves in RES the exact root rounded down. -/
def Obligations.IsqrtfGivesFloorRoot : Prop :=
  decode 0x00000001#64 = .ok .isqrtf ∧
  ∀ s : State, ∃ r : Nat,
    r * r ≤ s.arg0.toNat ∧ s.arg0.toNat < (r + 1) * (r + 1) ∧ r < 2 ^ 32 ∧
    exec .isqrtf s = .next { s with res := BitVec.ofNat 64 r, busy := false, done := true }

/-- 40_isqrt.md R123, R125: ISQRTC leaves in RES the least `r` with `r*r >= ARG0`, at most 2^32. -/
def Obligations.IsqrtcGivesCeilRoot : Prop :=
  decode 0x00000101#64 = .ok .isqrtc ∧
  ∀ s : State, ∃ r : Nat,
    IsLeast {r : Nat | s.arg0.toNat ≤ r * r} r ∧ r ≤ 2 ^ 32 ∧
    (r = 2 ^ 32 ↔ 0xFFFFFFFE00000001 < s.arg0.toNat) ∧
    exec .isqrtc s = .next { s with res := BitVec.ofNat 64 r, busy := false, done := true }

/-- The fixed pipeline of 32 stages gives the same root as the loop for every 64-bit value (40_isqrt.md, the equality the
spec derives beside R122). -/
def Obligations.PipelineRootAgrees : Prop :=
  ∀ x : Word, isqrtPipeline x.toNat = isqrtFloor x.toNat

/-- ISPRIME writes the trial-division verdict to RES and PF (41_primality.md R150). That the verdict is primality of odd
numbers, with 1 true and 2 false, is the closed form the spec marks as its own derivation (41_primality.md section 1). -/
def Obligations.IsprimeGivesVerdict : Prop :=
  decode 0x00000002#64 = .ok .isprime ∧
  ∀ s : State, ∃ b : Bool,
    (b = true ↔ s.arg0.toNat % 2 = 1 ∧ (s.arg0.toNat = 1 ∨ s.arg0.toNat.Prime)) ∧
    exec .isprime s =
      .next { s with res := if b then 1 else 0, pf := b, busy := false, done := true }

/-- PPRED writes the prime predecessor to RES (41_primality.md R155). That it is 0, 1, 2 at 0, 1, 2 and from 3 on the largest
prime not above ARG0, at least half of it, is the closed form the spec marks as its own derivation (41_primality.md
section 2). -/
def Obligations.PpredGivesPredecessor : Prop :=
  decode 0x00000003#64 = .ok .ppred ∧
  ∀ s : State, ∃ q : Nat,
    ((s.arg0.toNat ≤ 2 ∧ q = s.arg0.toNat) ∨
      (3 ≤ s.arg0.toNat ∧ IsGreatest {q : Nat | q.Prime ∧ q ≤ s.arg0.toNat} q ∧
        (s.arg0.toNat + 1) / 2 ≤ q)) ∧
    exec .ppred s = .next { s with res := BitVec.ofNat 64 q, busy := false, done := true }

/-- The small-prime ROM holds exactly the primes below 258, 55 of them, in increasing order (41_primality.md section 1). -/
def Obligations.SmallPrimeRomHoldsPrimes : Prop :=
  smallPrimes.length = 55 ∧ smallPrimes.Pairwise (· < ·) ∧ ∀ q : Nat, q ∈ smallPrimes ↔ q.Prime ∧ q < 258

/-- SELPRIME and SELPRIME.NT write the selected prime to RES and the table hit to TH (42_construction.md R181, R182). Which
prime that is, is the closed form the spec marks as its own derivation (42_construction.md section 2). -/
def Obligations.SelprimeFormsSelect : Prop :=
  decode 0x00000004#64 = .ok .selprime ∧ decode 0x00000104#64 = .ok .selprimeNt ∧
  ∀ s : State, ∃ (p : Nat) (hit : Bool),
    SelectedPrime s.arg0.toNat p ∧ (hit = true ↔ TableKey s.arg0.toNat) ∧
    exec .selprime s =
      .next { s with res := BitVec.ofNat 64 p, th := hit, busy := false, done := true } ∧
    exec .selprimeNt s =
      .next { s with res := BitVec.ofNat 64 p, th := false, busy := false, done := true }

/-- 42_construction.md R170: the table's universes are those of the formula, each tabulated prime is what the general search
gives, and so the table never changes the selected prime. -/
def Obligations.TableAgreesWithSearch : Prop :=
  (∀ u : Nat, (∃ p, (u, p) ∈ commonUniverseTable) ↔ TableKey u) ∧ commonUniverseTable.length = 16 ∧
  (∀ u p : Nat, (u, p) ∈ commonUniverseTable → p = search u) ∧
  (∀ (u : Nat) (nt : Bool), (selectPrime u nt).1 = search u)

/-- CONSTRUCT builds the instance and clears the cursors, or faults UZERO (42_construction.md R186, R187). Which prime it
selects is the closed form the spec marks as its own derivation (42_construction.md section 2). -/
def Obligations.ConstructBuildsInstance : Prop :=
  decode 0x00000008#64 = .ok .construct ∧
  ∀ s : State,
    (s.arg0 = 0 → exec .construct s = .next (faultEntry s 2)) ∧
    (s.arg0 ≠ 0 → ∃ (p : Nat) (hit : Bool),
      SelectedPrime s.arg0.toNat p ∧ (hit = true ↔ TableKey s.arg0.toNat) ∧
      exec .construct s =
        .next { s with univ := s.arg0, seed := s.arg1 ^^^ Config.shuffle1 ^^^ Config.shuffle2,
                       prime := BitVec.ofNat 64 p, cur := Vector.replicate 4 0,
                       res := BitVec.ofNat 64 p, th := hit, busy := false, done := true })

/-- CONSTRUCT.NT builds the instance with TH cleared, or faults UZERO (42_construction.md R186, R188). Which prime it selects
is the closed form the spec marks as its own derivation (42_construction.md section 2). -/
def Obligations.ConstructNtBuildsInstance : Prop :=
  decode 0x00000108#64 = .ok .constructNt ∧
  ∀ s : State,
    (s.arg0 = 0 → exec .constructNt s = .next (faultEntry s 2)) ∧
    (s.arg0 ≠ 0 → ∃ p : Nat,
      SelectedPrime s.arg0.toNat p ∧
      exec .constructNt s =
        .next { s with univ := s.arg0, seed := s.arg1 ^^^ Config.shuffle1 ^^^ Config.shuffle2,
                       prime := BitVec.ofNat 64 p, cur := Vector.replicate 4 0,
                       res := BitVec.ofNat 64 p, th := false, busy := false, done := true })

/-- The two construction forms leave the same state but for TH, on every operand (42_construction.md section 3, the corner
case of CONSTRUCT.NT). -/
def Obligations.ConstructFormsBuildTheSame : Prop :=
  ∀ s : State, ∃ (t : State) (hit : Bool),
    exec .construct s = .next t ∧ exec .constructNt s = .next { t with th := hit }

/-- 42_construction.md R186: mixing is xor with the two constants, its own inverse, and sends 0 to K, which a construction
with raw seed 0 leaves in SEED; DEFAULT stores 0 unmixed. -/
def Obligations.SeedMixing : Prop :=
  (∀ w : Word, mix w = w ^^^ (Config.shuffle1 ^^^ Config.shuffle2) ∧ mix (mix w) = w) ∧
  Function.Bijective mix ∧ mix 0 = Config.shuffle1 ^^^ Config.shuffle2 ∧
  (∀ s : State, s.arg0 ≠ 0 → s.arg1 = 0 →
    ∃ t, exec .construct s = .next t ∧ t.seed = Config.shuffle1 ^^^ Config.shuffle2) ∧
  (∀ s : State, ∃ t, exec .defaultInstance s = .next t ∧ t.seed = 0)

/-- 42_construction.md R189: DEFAULT installs the instance (1, 0, 0), clears the cursors and leaves RES and the flags. -/
def Obligations.DefaultInstallsDegenerate : Prop :=
  decode 0x00000009#64 = .ok .defaultInstance ∧
  ∀ s : State,
    exec .defaultInstance s =
      .next { s with univ := 1, seed := 0, prime := 0, cur := Vector.replicate 4 0, busy := false, done := true }

/-- 43_mapping.md R200, R203: MODSQ is the remainder of the exact 128-bit square, or faults DIVZERO. -/
def Obligations.ModsqOnTheWideSquare : Prop :=
  decode 0x00000005#64 = .ok .modsq ∧
  ∀ s : State,
    (s.arg1 = 0 → exec .modsq s = .next (faultEntry s 4)) ∧
    (s.arg1 ≠ 0 →
      exec .modsq s =
        .next { s with
          res := ((s.arg0.setWidth 128 * s.arg0.setWidth 128) % s.arg1.setWidth 128).setWidth 64,
          busy := false, done := true } ∧
      (((s.arg0.setWidth 128 * s.arg0.setWidth 128) % s.arg1.setWidth 128).setWidth 64).toNat =
        s.arg0.toNat * s.arg0.toNat % s.arg1.toNat)

/-- 43_mapping.md R206: PERMUTE applies the core mapping at register width, or faults RANGE. -/
def Obligations.PermuteAppliesCoreMapping : Prop :=
  decode 0x0000000A#64 = .ok .permute ∧
  ∀ s : State,
    (s.univ ≤ s.arg0 → exec .permute s = .next (faultEntry s 3)) ∧
    (s.arg0 < s.univ →
      exec .permute s = .next { s with res := permuteWord s.prime s.arg0, busy := false, done := true })

/-- 43_mapping.md R208, R210: EVAL applies the mapping, adds the seed on 65 bits modulo the universe, and applies the mapping
again; or it faults RANGE. -/
def Obligations.EvalOnTheWideSum : Prop :=
  decode 0x0000000B#64 = .ok .eval ∧
  ∀ s : State,
    (s.univ ≤ s.arg0 → exec .eval s = .next (faultEntry s 3)) ∧
    (s.arg0 < s.univ →
      exec .eval s =
        .next { s with res := evaluateWord s.univ s.seed s.prime s.arg0, busy := false, done := true })

/-- 43_mapping.md R207: PERMUTE is a bijection of `[0, UNIVERSE)` onto itself for every instance that satisfies the invariant
of the reachable ones, with its three fixed points. -/
def Obligations.PermuteIsBijection : Prop :=
  ∀ s : State, s.InstanceOk →
    (∀ x : Word, x < s.univ → ∃ t, exec .permute { s with arg0 := x } = .next t ∧ t.done = true ∧ t.res < s.univ) ∧
    (∀ y : Word, y < s.univ → ∃! x : Word,
      x < s.univ ∧ ∃ t, exec .permute { s with arg0 := x } = .next t ∧ t.done = true ∧ t.res = y) ∧
    permuteWord s.prime 0 = 0 ∧
    (3 ≤ s.prime.toNat →
      permuteWord s.prime 1 = 1 ∧ permuteWord s.prime (s.prime - 1) = s.prime - 1) ∧
    (∀ x : Word, s.prime ≤ x → permuteWord s.prime x = x)

/-- EVAL is a bijection of `[0, UNIVERSE)` onto itself for every instance that satisfies the invariant of the reachable ones,
whatever the seed (43_mapping.md section 3, properties the spec marks as its own derivation). -/
def Obligations.EvalIsBijection : Prop :=
  ∀ s : State, s.InstanceOk →
    (∀ x : Word, x < s.univ → ∃ t, exec .eval { s with arg0 := x } = .next t ∧ t.done = true ∧ t.res < s.univ) ∧
    (∀ y : Word, y < s.univ → ∃! x : Word,
      x < s.univ ∧ ∃ t, exec .eval { s with arg0 := x } = .next t ∧ t.done = true ∧ t.res = y)

/-- With PRIME = 0 evaluation is the rotation by the seed, without modular squares (43_mapping.md section 3, the degenerate
instances, marked by the spec as its own derivation). -/
def Obligations.DegenerateInstancesRotate : Prop :=
  ∀ s : State, s.prime = 0 → s.arg0 < s.univ → ∃ t,
    exec .eval s = .next t ∧ t.done = true ∧
    t.res.toNat = (s.seed.toNat + s.arg0.toNat) % s.univ.toNat ∧ (s.univ = 1 → t.res = 0)

/-- 44_sequence.md R232: SEQSTART sets the cursor that CSEL names and no other, or faults RANGE. -/
def Obligations.SeqstartSetsCursor : Prop :=
  decode 0x0000000C#64 = .ok (.seqstart 0) ∧ decode 0x0000040C#64 = .ok (.seqstart 1) ∧
  decode 0x0000080C#64 = .ok (.seqstart 2) ∧ decode 0x00000C0C#64 = .ok (.seqstart 3) ∧
  ∀ (s : State) (k : Fin 4),
    (s.univ < s.arg0 → exec (.seqstart k) s = .next (faultEntry s 3)) ∧
    (s.arg0 ≤ s.univ → ∃ t,
      exec (.seqstart k) s = .next t ∧
      t = { s with cur := s.cur.set k s.arg0, busy := false, done := true } ∧
      t.cur[k] = s.arg0 ∧ (∀ j : Fin 4, j ≠ k → t.cur[j] = s.cur[j]) ∧
      (t.exhausted k = true ↔ s.arg0 = s.univ))

/-- 44_sequence.md R233: SEQNEXT yields the evaluation at the cursor before the increment and advances that cursor alone, or
faults RANGE. -/
def Obligations.SeqnextYieldsAndAdvances : Prop :=
  decode 0x0000000D#64 = .ok (.seqnext 0) ∧ decode 0x0000040D#64 = .ok (.seqnext 1) ∧
  decode 0x0000080D#64 = .ok (.seqnext 2) ∧ decode 0x00000C0D#64 = .ok (.seqnext 3) ∧
  ∀ (s : State) (k : Fin 4),
    (s.univ ≤ s.cur[k] → exec (.seqnext k) s = .next (faultEntry s 3)) ∧
    (s.cur[k] < s.univ → ∃ t,
      exec (.seqnext k) s = .next t ∧
      t = { s with res := evaluateWord s.univ s.seed s.prime s.cur[k], cur := s.cur.set k (s.cur[k] + 1),
                   busy := false, done := true } ∧
      t.cur[k].toNat = s.cur[k].toNat + 1 ∧ (∀ j : Fin 4, j ≠ k → t.cur[j] = s.cur[j]) ∧
      (t.exhausted k = true ↔ s.cur[k].toNat + 1 = s.univ.toNat))

/-- SEQNEXT leaves in RES what EVAL of the cursor would, and faults exactly when that EVAL would, both with cause RANGE
(44_sequence.md section 2, the relation to EVAL, marked by the spec as its own derivation). Each command runs with its own
word in PEND, which its fault leaves in ECMD (10_state.md section 7). -/
def Obligations.SeqnextAgreesWithEval : Prop :=
  ∀ (s : State) (k : Fin 4), ∃ t u,
    exec (.seqnext k) { s with pend := encode (.seqnext k) } = .next t ∧
    exec .eval { s with arg0 := s.cur[k], pend := encode .eval } = .next u ∧
    t.done = u.done ∧ t.err = u.err ∧ t.cause = u.cause ∧ t.res = u.res ∧
    (s.cur[k] < s.univ → t.done = true) ∧
    (s.univ ≤ s.cur[k] →
      t.done = false ∧ t.err = true ∧ t.cause = 3 ∧ t.ecmd = encode (.seqnext k) ∧ u.ecmd = encode .eval)

/-- 44_sequence.md R230: a sequence started at `start` yields the evaluations of `start` up to UNIVERSE - 1, in order, and
ends with the cursor at UNIVERSE. -/
def Obligations.SequenceYieldsEveryIndex : Prop :=
  ∀ (s : State) (k : Fin 4), s.arg0 ≤ s.univ → ∃ t u,
    exec (.seqstart k) s = .next t ∧
    yields k (s.univ.toNat - s.arg0.toNat) t =
      some ((List.range (s.univ.toNat - s.arg0.toNat)).map fun j =>
        evaluateWord s.univ s.seed s.prime (s.arg0 + BitVec.ofNat 64 j), u) ∧
    u.cur[k] = s.univ ∧ u.exhausted k = true ∧ (∀ j : Fin 4, j ≠ k → u.cur[j] = s.cur[j])

/-- 45_system.md R250: ACK on an idle block makes its five writes and no other; on a busy block it is dropped and sets OVR. -/
def Obligations.AckClearsFaultState : Prop :=
  decode 0x0000000F#64 = .ok .ack ∧
  ∀ s : State,
    (s.busy = false →
      exec .ack s = .next { s with done := false, err := false, ovr := false, cause := 0, ecmd := 0 }) ∧
    (s.busy = true → exec .ack s = .next { s with ovr := true })

/-- 20_memory.md R67: the command port by case, first match wins. The response is the normal one (R66). -/
def Obligations.CommandPortByCase : Prop :=
  ∀ (s : State) (v : Word) (rest : List Turn), s.schedule = .write .b64 0x18 v :: rest →
    (s.busy = true → step s = .next { s with ovr := true, schedule := rest, resp := .ok }) ∧
    (s.busy = false → v = 0x000000000000000F#64 →
      step s = .next { s with done := false, err := false, ovr := false, cause := 0, ecmd := 0,
                              schedule := rest, resp := .ok }) ∧
    (s.busy = false → v ≠ 0x000000000000000F#64 → s.err = true →
      step s = .next { s with ovr := true, schedule := rest, resp := .ok }) ∧
    (s.busy = false → v ≠ 0x000000000000000F#64 → s.err = false →
      step s = .next { s with pend := v, busy := true, done := false, schedule := rest, resp := .ok })

/-- 20_memory.md R63: a read of each of the sixteen locations returns its value and changes no state of the block, at any
time. -/
def Obligations.ReadsReturnLocations : Prop :=
  ∀ (s : State) (rest : List Turn) (off : Nat) (v : Word),
    (off, v) ∈ [(0x00, 0x5152504500000001#64),
      (0x08, 0#62 ++ BitVec.ofBool s.ieErr ++ BitVec.ofBool s.ieDone), (0x10, s.statusWord), (0x18, 0#64),
      (0x20, s.arg0), (0x28, s.arg1), (0x30, s.res), (0x38, s.ecmd), (0x40, s.univ), (0x48, s.seed),
      (0x50, s.prime), (0x58, 0#64), (0x60, s.cur[0]), (0x68, s.cur[1]), (0x70, s.cur[2]), (0x78, s.cur[3])] →
    step { s with schedule := .read .b64 off :: rest } = .next { s with schedule := rest, resp := .data v }

/-- 20_memory.md R64, R66: operand writes are stored while BUSY = 0, whatever DONE, ERR and OVR, and dropped with OVR while
BUSY = 1; a CMD write is dropped so while BUSY = 1, or while ERR = 1 when it is not the ACK word. -/
def Obligations.OperandWritesAndDrops : Prop :=
  ∀ (s : State) (v : Word) (rest : List Turn),
    (s.busy = false →
      step { s with schedule := .write .b64 0x20 v :: rest } =
        .next { s with arg0 := v, schedule := rest, resp := .ok } ∧
      step { s with schedule := .write .b64 0x28 v :: rest } =
        .next { s with arg1 := v, schedule := rest, resp := .ok }) ∧
    (∀ off : Nat, (s.busy = true ∧ off ∈ [0x18, 0x20, 0x28]) ∨
        (s.busy = false ∧ s.err = true ∧ off = 0x18 ∧ v ≠ 0xF#64) →
      step { s with schedule := .write .b64 off v :: rest } =
        .next { s with ovr := true, schedule := rest, resp := .ok })

/-- 20_memory.md R65: a write to a read-only or reserved location is ignored, at any time, and no host access changes the
instance or a cursor. -/
def Obligations.ReadOnlyWritesIgnored : Prop :=
  (∀ (s : State) (v : Word) (rest : List Turn) (off : Nat),
    off ∈ [0x00, 0x10, 0x30, 0x38, 0x40, 0x48, 0x50, 0x58, 0x60, 0x68, 0x70, 0x78] →
    step { s with schedule := .write .b64 off v :: rest } = .next { s with schedule := rest, resp := .ok }) ∧
  (∀ s t : State, HostTurn s.nextTurn → step s = .next t →
    t.univ = s.univ ∧ t.seed = s.seed ∧ t.prime = s.prime ∧ t.cur = s.cur)

/-- 20_memory.md R68: a write to CTRL stores its two low bits, at any time, and never sets OVR. -/
def Obligations.ControlWrites : Prop :=
  ∀ (s : State) (v : Word) (rest : List Turn),
    step { s with schedule := .write .b64 0x08 v :: rest } =
      .next { s with ieDone := v.getLsbD 0, ieErr := v.getLsbD 1, schedule := rest, resp := .ok }

/-- A refused access changes nothing and does not set OVR; that it is answered as a next state is the model's choice (log
entry 4). An access outside the window stops the run: the model's choice too (log entry 5). 20_memory.md section 2. -/
def Obligations.RefusedAccessesChangeNothing : Prop :=
  ∀ (s : State) (rest : List Turn) (size : AccessSize) (off : Nat) (v : Word),
    (off < 128 → size ≠ .b64 ∨ off % 8 ≠ 0 →
      step { s with schedule := .read size off :: rest } =
        .next { s with schedule := rest, resp := .error } ∧
      step { s with schedule := .write size off v :: rest } =
        .next { s with schedule := rest, resp := .error }) ∧
    (128 ≤ off →
      step { s with schedule := .read size off :: rest } = .fault .outsideWindow ∧
      step { s with schedule := .write size off v :: rest } = .fault .outsideWindow)

/-- 20_memory.md R69: the byte at offset `off + n` of the window carries bits `8n+7 : 8n` of the location at `off`. -/
def Obligations.WindowIsLittleEndian : Prop :=
  ∀ (s : State) (off n : Nat), off < 128 → off % 8 = 0 → n < 8 →
    ∀ rest, ∃ t v, step { s with schedule := .read .b64 off :: rest } = .next t ∧ t.resp = .data v ∧
      ∀ b < 8, (windowByte s (off + n)).getLsbD b = v.getLsbD (8 * n + b)

/-- 10_state.md R26: every bit of STATUS as read, in every state; CAUSE reads as 0 without a fault where the invariant of the
status holds; a host write to STATUS is ignored. -/
def Obligations.StatusLayout : Prop :=
  (∀ s : State,
    s.statusWord.getLsbD 0 = s.busy ∧ s.statusWord.getLsbD 1 = s.done ∧ s.statusWord.getLsbD 2 = s.err ∧
    s.statusWord.getLsbD 3 = s.ovr ∧ s.statusWord.getLsbD 4 = s.pf ∧ s.statusWord.getLsbD 5 = s.th ∧
    s.statusWord.extractLsb' 6 2 = 0 ∧
    (∀ k : Fin 4, s.statusWord.getLsbD (8 + k) = true ↔ s.cur[k] = s.univ) ∧
    s.statusWord.extractLsb' 12 4 = 0 ∧ s.statusWord.extractLsb' 16 4 = s.cause ∧
    s.statusWord.extractLsb' 20 44 = 0 ∧
    (s.StatusOk → s.err = false → s.statusWord.extractLsb' 16 4 = 0)) ∧
  (∀ (s : State) (v : Word) (rest : List Turn),
    step { s with schedule := .write .b64 0x10 v :: rest } = .next { s with schedule := rest, resp := .ok })

/-- 60_exceptions.md R270: the interrupt line is `(DONE and IE_DONE) or (ERR and IE_ERR)`; it falls with ACK and with reset,
and its `DONE` part with the issue of the next command. -/
def Obligations.InterruptLine : Prop :=
  (∀ s : State, s.irq = true ↔ (s.done = true ∧ s.ieDone = true) ∨ (s.err = true ∧ s.ieErr = true)) ∧
  (∀ s t : State, s.busy = false → exec .ack s = .next t → t.irq = false) ∧
  (∀ (s t : State) (rest : List Turn), step { s with schedule := .reset :: rest } = .next t → t.irq = false) ∧
  (∀ (s t : State) (v : Word) (rest : List Turn), s.busy = false → s.err = false → v ≠ 0xF#64 →
    step { s with schedule := .write .b64 0x18 v :: rest } = .next t → t.irq = false)

/-- 60_exceptions.md R261: which command faults when, with which code; every other completion ends without fault. The engine's
turn on a busy block whose PEND is illegal faults with code 1, whatever turns follow. -/
def Obligations.FaultTable : Prop :=
  (∀ (i : Instr) (s : State), i ≠ .ack →
    (∀ c, expectedFault i s = some c → exec i s = .next (faultEntry s c)) ∧
    (expectedFault i s = none → ∃ t, exec i s = .next t ∧ t.busy = false ∧ t.done = true ∧ t.err = s.err ∧
      t.cause = s.cause ∧ t.ecmd = s.ecmd ∧ t.ovr = s.ovr)) ∧
  (∀ (s : State) (rest : List Turn), s.busy = true → IllegalWord s.pend →
    step { s with schedule := .engine :: rest } = .next (faultEntry { s with schedule := rest } 1))

/-- 60_exceptions.md R263: when a completion raises ERR, it has made the fault entry and none of the command's writes. The
engine's turn is also the next one when nothing is scheduled: the model's choice (log entry 3). -/
def Obligations.FaultsArePrecise : Prop :=
  ∀ s t : State, s.nextTurn = .engine → s.busy = true → s.err = false → step s = .next t → t.err = true →
    ∃ c : BitVec 4, 1 ≤ c.toNat ∧ c.toNat ≤ 4 ∧
      t = { faultEntry s c with schedule := s.schedule.tail }

/-- In the fault state nothing but reset and the ACK word changes the status, the fault registers, the result, the instance,
the flags or the cursors: no completion, no issue (60_exceptions.md R265). -/
def Obligations.FaultStateIsQuiescent : Prop :=
  ∀ s t : State, s.err = true → s.busy = false → step s = .next t → s.nextTurn ≠ .reset →
    s.nextTurn ≠ .write .b64 0x18 0xF#64 →
    { t with arg0 := s.arg0, arg1 := s.arg1, ovr := s.ovr, ieDone := s.ieDone, ieErr := s.ieErr,
             schedule := s.schedule, resp := s.resp } = s

/-- OVR rises only with a dropped write, and falls only with ACK or reset (10_state.md R28). -/
def Obligations.OverrunIsSticky : Prop :=
  ∀ s t : State, step s = .next t →
    (s.ovr = false → t.ovr = true → ∃ off v, s.nextTurn = .write .b64 off v ∧
      ((s.busy = true ∧ off ∈ [0x18, 0x20, 0x28]) ∨ (s.err = true ∧ off = 0x18 ∧ v ≠ 0xF#64))) ∧
    (s.ovr = true → t.ovr = false →
      s.nextTurn = .reset ∨ (s.busy = false ∧ s.nextTurn = .write .b64 0x18 0xF#64))

/-- The instance registers change only with reset or the completion of a construction (10_state.md R23); cursor `k` only so,
or with SEQSTART k and SEQNEXT k (10_state.md R24, 44_sequence.md R231). -/
def Obligations.InstanceAndCursorWriters : Prop :=
  ∀ s t : State, step s = .next t → s.nextTurn ≠ .reset →
    ((t.univ ≠ s.univ ∨ t.seed ≠ s.seed ∨ t.prime ≠ s.prime) →
      ∃ i, s.Completes i ∧ writesInstance i = true) ∧
    (∀ k : Fin 4, t.cur[k] ≠ s.cur[k] → ∃ i, s.Completes i ∧ writesCursor i k = true)

/-- RES changes only with a completion that produces a result (10_state.md R21), PF only with ISPRIME, TH only with the
selecting commands (10_state.md R25), or with reset. -/
def Obligations.ResultAndFlagWriters : Prop :=
  ∀ s t : State, step s = .next t → s.nextTurn ≠ .reset →
    (t.res ≠ s.res → ∃ i, s.Completes i ∧ writesRes i = true) ∧
    (t.pf ≠ s.pf → s.Completes .isprime) ∧
    (t.th ≠ s.th → ∃ i, s.Completes i ∧ writesTh i = true)

/-- ARG0 and ARG1 change only with reset or an admitted host write to them while BUSY = 0 (10_state.md R21). -/
def Obligations.OperandsWrittenByHostOnly : Prop :=
  ∀ s t : State, step s = .next t → s.nextTurn ≠ .reset →
    (t.arg0 ≠ s.arg0 → s.busy = false ∧ s.nextTurn = .write .b64 0x20 t.arg0) ∧
    (t.arg1 ≠ s.arg1 → s.busy = false ∧ s.nextTurn = .write .b64 0x28 t.arg1)

/-- What a completion computes depends only on the operands the table of 10_state.md R33 lists for the command. -/
def Obligations.ResultsDependOnListedOperands : Prop :=
  ∀ (i : Instr) (s s' : State), i ≠ .ack → (∀ o ∈ reads i, o.word s = o.word s') → ∃ t t',
    exec i s = .next t ∧ exec i s' = .next t' ∧ t.done = t'.done ∧
    (t.done = true →
      (writesRes i = true → t.res = t'.res) ∧
      (writesInstance i = true → t.univ = t'.univ ∧ t.seed = t'.seed ∧ t.prime = t'.prime) ∧
      (∀ k, writesCursor i k = true → t.cur[k] = t'.cur[k]) ∧
      (i = .isprime → t.pf = t'.pf) ∧ (writesTh i = true → t.th = t'.th))

/-- While a command stays pending nothing but OVR, CTRL and the model's own fields changes (10_state.md R40,
20_memory.md R75). -/
def Obligations.PendingCommandIsFrozen : Prop :=
  ∀ s t : State, s.busy = true → step s = .next t → t.busy = true →
    { t with ovr := s.ovr, ieDone := s.ieDone, ieErr := s.ieErr, schedule := s.schedule, resp := s.resp } = s

/-- Any host accesses, admitted or refused, between issue and completion leave the pending command's effects as they are
(20_memory.md section 8): only OVR, CTRL and the answer to the host can differ. That the run goes on past a refused access,
as a next state, is the model's choice (log entry 4). -/
def Obligations.HostCannotDisturbPending : Prop :=
  ∀ (s : State) (i : Instr) (ts : List Turn), s.busy = true → decode s.pend = .ok i → i ≠ .ack →
    (∀ t ∈ ts, HostTurn t) → ∃ t u,
      runSteps (ts.length + 1) { s with schedule := ts ++ [.engine] } = .next t ∧
      exec i { s with schedule := [] } = .next u ∧
      { t with ovr := u.ovr, ieDone := u.ieDone, ieErr := u.ieErr, resp := u.resp } = u

/-- PEND is never read while BUSY = 0: two such states that differ in PEND alone step alike (10_state.md R40). -/
def Obligations.IdlePendIsNeverRead : Prop :=
  ∀ (s t : State) (v : Word), s.busy = false → step s = .next t → ∃ t',
    step { s with pend := v } = .next t' ∧ { t' with pend := t.pend } = t ∧ (t.busy = true → t'.pend = t.pend)

/-- 60_exceptions.md R271: CTRL and so irq have no effect on the block: two states that differ in CTRL alone step alike, and
only a read of CTRL tells them apart. -/
def Obligations.ControlHasNoEffect : Prop :=
  ∀ (s t : State) (a b : Bool), step s = .next t → ∃ t',
    step { s with ieDone := a, ieErr := b } = .next t' ∧
    { t' with ieDone := t.ieDone, ieErr := t.ieErr, resp := t.resp } = t ∧
    (s.nextTurn ≠ .read .b64 0x08 → t'.resp = t.resp)

/-- The machine stops only on a host access outside the window. This says how the model answers, and rests on its choices:
that such an access stops the run (log entry 5), that a refused access is a next state (log entry 4), that an idle engine's
turn is one (log entry 2), that with nothing scheduled a busy engine completes (log entry 3), and that a command fault is a
next state (log entry 10). -/
def Obligations.OnlyOutsideAccessesStop : Prop :=
  ∀ s : State, s.SafeStep ∨
    (step s = .fault .outsideWindow ∧ ∃ size off, 128 ≤ off ∧
      (s.nextTurn = .read size off ∨ ∃ v, s.nextTurn = .write size off v))

/-- Every pending command is completed by the engine's turn, with a result or with a fault (70_reset_and_hazards.md section
3, termination, marked by the spec as its own derivation); an illegal one faults with code 1. The engine's turn is also the
next one when nothing is scheduled: the model's choice (log entry 3). -/
def Obligations.PendingCommandCompletes : Prop :=
  ∀ s : State, s.busy = true → s.nextTurn = .engine → ∃ t,
    step s = .next t ∧ t.busy = false ∧ (t.done = true ∨ (t.done = false ∧ t.err = true ∧ t.ecmd = s.pend)) ∧
    (IllegalWord s.pend → t = { faultEntry s 1 with schedule := s.schedule.tail })

/-- The invariant holds at reset. -/
def Obligations.InvariantHoldsAtReset : Prop := State.reset.Inv

/-- Every step keeps the invariant: the instance is what a construction makes, no cursor passes the universe, the status bits
exclude each other, and the fault registers are clear without a fault (10_state.md R23, R24, R27, R28, R32, R41 and
60_exceptions.md R265; the instance clauses are marked by the spec as its own derivation). -/
def Obligations.StepKeepsInvariant : Prop :=
  ∀ s t : State, s.Inv → step s = .next t → t.Inv
end

