-- ==== Sys2Proof/Laws/Number.lean ====
section
/-! SUPPORT. One unfolding of each loop, so that no proof unfolds a recursion itself. -/

namespace Sys2Proof.Machine

@[simp] theorem isqrtLoop_zero (x r : Nat) : isqrtLoop x 0 r = r := rfl

theorem isqrtLoop_succ (x e r : Nat) :
    isqrtLoop x (e + 1) r =
      isqrtLoop x e (if (2 * r + 1) * (2 * r + 1) ≤ x >>> (2 * e) then 2 * r + 1 else 2 * r) := rfl

@[simp] theorem tableScan_nil (p m : Nat) : tableScan p m [] = none := rfl

theorem tableScan_cons (p m d : Nat) (ds : List Nat) :
    tableScan p m (d :: ds) = if d > m then some true else if p % d = 0 then some false else tableScan p m ds := rfl

@[simp] theorem wheel_zero (p m i : Nat) : wheel p m 0 i = true := rfl

theorem wheel_succ (p m fuel i : Nat) :
    wheel p m (fuel + 1) i =
      if i ≤ m then
        if p % i = 0 then false
        else if i + 2 ≤ m ∧ p % (i + 2) = 0 then false
        else wheel p m fuel (i + 6)
      else true := rfl

@[simp] theorem descend_zero (p : Nat) : descend 0 p = p := rfl

theorem descend_succ (fuel p : Nat) : descend (fuel + 1) p = if isPrime p then p else descend fuel (p - 2) := rfl

@[simp] theorem searchLoop_zero (p : Nat) : searchLoop 0 p = 0 := rfl

theorem searchLoop_succ (fuel p : Nat) :
    searchLoop (fuel + 1) p =
      if p % 4 = 3 then p else if p = 0 then 0 else searchLoop fuel (primePred (p - 1)) := rfl

/-- Every even number is rejected, 0 and 2 among them (41_primality.md R142). -/
theorem isPrime_even {p : Nat} (h : p % 2 = 0) : isPrime p = false := by simp [isPrime, h]

/-- The table or the search (42_construction.md R176). -/
theorem selectPrime_cases (u : Nat) (nt : Bool) :
    (nt = false ∧ ∃ p, lookup u = some p ∧ selectPrime u nt = (p, true)) ∨
    ((nt = true ∨ lookup u = none) ∧ selectPrime u nt = (search u, false)) := by
  unfold selectPrime
  cases nt
  · cases h : lookup u <;> simp
  · simp

end Sys2Proof.Machine
end

