-- ==== Sys2Proof/Laws/State.lean ====
section
/-! SUPPORT. Every field of every named update of the state, true by rfl, so that no proof unfolds a record update. -/

namespace Sys2Proof.Machine

variable (s : State)

@[simp] theorem State.setArg0_arg0 (v : Word) : (s.setArg0 v).arg0 = v := rfl
@[simp] theorem State.setArg0_arg1 (v : Word) : (s.setArg0 v).arg1 = s.arg1 := rfl
@[simp] theorem State.setArg0_res (v : Word) : (s.setArg0 v).res = s.res := rfl
@[simp] theorem State.setArg0_univ (v : Word) : (s.setArg0 v).univ = s.univ := rfl
@[simp] theorem State.setArg0_seed (v : Word) : (s.setArg0 v).seed = s.seed := rfl
@[simp] theorem State.setArg0_prime (v : Word) : (s.setArg0 v).prime = s.prime := rfl
@[simp] theorem State.setArg0_cur (v : Word) : (s.setArg0 v).cur = s.cur := rfl
@[simp] theorem State.setArg0_busy (v : Word) : (s.setArg0 v).busy = s.busy := rfl
@[simp] theorem State.setArg0_done (v : Word) : (s.setArg0 v).done = s.done := rfl
@[simp] theorem State.setArg0_err (v : Word) : (s.setArg0 v).err = s.err := rfl
@[simp] theorem State.setArg0_ovr (v : Word) : (s.setArg0 v).ovr = s.ovr := rfl
@[simp] theorem State.setArg0_pf (v : Word) : (s.setArg0 v).pf = s.pf := rfl
@[simp] theorem State.setArg0_th (v : Word) : (s.setArg0 v).th = s.th := rfl
@[simp] theorem State.setArg0_cause (v : Word) : (s.setArg0 v).cause = s.cause := rfl
@[simp] theorem State.setArg0_ecmd (v : Word) : (s.setArg0 v).ecmd = s.ecmd := rfl
@[simp] theorem State.setArg0_ieDone (v : Word) : (s.setArg0 v).ieDone = s.ieDone := rfl
@[simp] theorem State.setArg0_ieErr (v : Word) : (s.setArg0 v).ieErr = s.ieErr := rfl
@[simp] theorem State.setArg0_pend (v : Word) : (s.setArg0 v).pend = s.pend := rfl
@[simp] theorem State.setArg0_schedule (v : Word) : (s.setArg0 v).schedule = s.schedule := rfl
@[simp] theorem State.setArg0_resp (v : Word) : (s.setArg0 v).resp = s.resp := rfl

@[simp] theorem State.setArg1_arg0 (v : Word) : (s.setArg1 v).arg0 = s.arg0 := rfl
@[simp] theorem State.setArg1_arg1 (v : Word) : (s.setArg1 v).arg1 = v := rfl
@[simp] theorem State.setArg1_res (v : Word) : (s.setArg1 v).res = s.res := rfl
@[simp] theorem State.setArg1_univ (v : Word) : (s.setArg1 v).univ = s.univ := rfl
@[simp] theorem State.setArg1_seed (v : Word) : (s.setArg1 v).seed = s.seed := rfl
@[simp] theorem State.setArg1_prime (v : Word) : (s.setArg1 v).prime = s.prime := rfl
@[simp] theorem State.setArg1_cur (v : Word) : (s.setArg1 v).cur = s.cur := rfl
@[simp] theorem State.setArg1_busy (v : Word) : (s.setArg1 v).busy = s.busy := rfl
@[simp] theorem State.setArg1_done (v : Word) : (s.setArg1 v).done = s.done := rfl
@[simp] theorem State.setArg1_err (v : Word) : (s.setArg1 v).err = s.err := rfl
@[simp] theorem State.setArg1_ovr (v : Word) : (s.setArg1 v).ovr = s.ovr := rfl
@[simp] theorem State.setArg1_pf (v : Word) : (s.setArg1 v).pf = s.pf := rfl
@[simp] theorem State.setArg1_th (v : Word) : (s.setArg1 v).th = s.th := rfl
@[simp] theorem State.setArg1_cause (v : Word) : (s.setArg1 v).cause = s.cause := rfl
@[simp] theorem State.setArg1_ecmd (v : Word) : (s.setArg1 v).ecmd = s.ecmd := rfl
@[simp] theorem State.setArg1_ieDone (v : Word) : (s.setArg1 v).ieDone = s.ieDone := rfl
@[simp] theorem State.setArg1_ieErr (v : Word) : (s.setArg1 v).ieErr = s.ieErr := rfl
@[simp] theorem State.setArg1_pend (v : Word) : (s.setArg1 v).pend = s.pend := rfl
@[simp] theorem State.setArg1_schedule (v : Word) : (s.setArg1 v).schedule = s.schedule := rfl
@[simp] theorem State.setArg1_resp (v : Word) : (s.setArg1 v).resp = s.resp := rfl

@[simp] theorem State.setRes_arg0 (v : Word) : (s.setRes v).arg0 = s.arg0 := rfl
@[simp] theorem State.setRes_arg1 (v : Word) : (s.setRes v).arg1 = s.arg1 := rfl
@[simp] theorem State.setRes_res (v : Word) : (s.setRes v).res = v := rfl
@[simp] theorem State.setRes_univ (v : Word) : (s.setRes v).univ = s.univ := rfl
@[simp] theorem State.setRes_seed (v : Word) : (s.setRes v).seed = s.seed := rfl
@[simp] theorem State.setRes_prime (v : Word) : (s.setRes v).prime = s.prime := rfl
@[simp] theorem State.setRes_cur (v : Word) : (s.setRes v).cur = s.cur := rfl
@[simp] theorem State.setRes_busy (v : Word) : (s.setRes v).busy = s.busy := rfl
@[simp] theorem State.setRes_done (v : Word) : (s.setRes v).done = s.done := rfl
@[simp] theorem State.setRes_err (v : Word) : (s.setRes v).err = s.err := rfl
@[simp] theorem State.setRes_ovr (v : Word) : (s.setRes v).ovr = s.ovr := rfl
@[simp] theorem State.setRes_pf (v : Word) : (s.setRes v).pf = s.pf := rfl
@[simp] theorem State.setRes_th (v : Word) : (s.setRes v).th = s.th := rfl
@[simp] theorem State.setRes_cause (v : Word) : (s.setRes v).cause = s.cause := rfl
@[simp] theorem State.setRes_ecmd (v : Word) : (s.setRes v).ecmd = s.ecmd := rfl
@[simp] theorem State.setRes_ieDone (v : Word) : (s.setRes v).ieDone = s.ieDone := rfl
@[simp] theorem State.setRes_ieErr (v : Word) : (s.setRes v).ieErr = s.ieErr := rfl
@[simp] theorem State.setRes_pend (v : Word) : (s.setRes v).pend = s.pend := rfl
@[simp] theorem State.setRes_schedule (v : Word) : (s.setRes v).schedule = s.schedule := rfl
@[simp] theorem State.setRes_resp (v : Word) : (s.setRes v).resp = s.resp := rfl

@[simp] theorem State.setInstance_arg0 (u sd p : Word) : (s.setInstance u sd p).arg0 = s.arg0 := rfl
@[simp] theorem State.setInstance_arg1 (u sd p : Word) : (s.setInstance u sd p).arg1 = s.arg1 := rfl
@[simp] theorem State.setInstance_res (u sd p : Word) : (s.setInstance u sd p).res = s.res := rfl
@[simp] theorem State.setInstance_univ (u sd p : Word) : (s.setInstance u sd p).univ = u := rfl
@[simp] theorem State.setInstance_seed (u sd p : Word) : (s.setInstance u sd p).seed = sd := rfl
@[simp] theorem State.setInstance_prime (u sd p : Word) : (s.setInstance u sd p).prime = p := rfl
@[simp] theorem State.setInstance_cur (u sd p : Word) : (s.setInstance u sd p).cur = s.cur := rfl
@[simp] theorem State.setInstance_busy (u sd p : Word) : (s.setInstance u sd p).busy = s.busy := rfl
@[simp] theorem State.setInstance_done (u sd p : Word) : (s.setInstance u sd p).done = s.done := rfl
@[simp] theorem State.setInstance_err (u sd p : Word) : (s.setInstance u sd p).err = s.err := rfl
@[simp] theorem State.setInstance_ovr (u sd p : Word) : (s.setInstance u sd p).ovr = s.ovr := rfl
@[simp] theorem State.setInstance_pf (u sd p : Word) : (s.setInstance u sd p).pf = s.pf := rfl
@[simp] theorem State.setInstance_th (u sd p : Word) : (s.setInstance u sd p).th = s.th := rfl
@[simp] theorem State.setInstance_cause (u sd p : Word) : (s.setInstance u sd p).cause = s.cause := rfl
@[simp] theorem State.setInstance_ecmd (u sd p : Word) : (s.setInstance u sd p).ecmd = s.ecmd := rfl
@[simp] theorem State.setInstance_ieDone (u sd p : Word) : (s.setInstance u sd p).ieDone = s.ieDone := rfl
@[simp] theorem State.setInstance_ieErr (u sd p : Word) : (s.setInstance u sd p).ieErr = s.ieErr := rfl
@[simp] theorem State.setInstance_pend (u sd p : Word) : (s.setInstance u sd p).pend = s.pend := rfl
@[simp] theorem State.setInstance_schedule (u sd p : Word) : (s.setInstance u sd p).schedule = s.schedule := rfl
@[simp] theorem State.setInstance_resp (u sd p : Word) : (s.setInstance u sd p).resp = s.resp := rfl

@[simp] theorem State.setCursor_arg0 (k : Fin Config.numCursors) (v : Word) : (s.setCursor k v).arg0 = s.arg0 := rfl
@[simp] theorem State.setCursor_arg1 (k : Fin Config.numCursors) (v : Word) : (s.setCursor k v).arg1 = s.arg1 := rfl
@[simp] theorem State.setCursor_res (k : Fin Config.numCursors) (v : Word) : (s.setCursor k v).res = s.res := rfl
@[simp] theorem State.setCursor_univ (k : Fin Config.numCursors) (v : Word) : (s.setCursor k v).univ = s.univ := rfl
@[simp] theorem State.setCursor_seed (k : Fin Config.numCursors) (v : Word) : (s.setCursor k v).seed = s.seed := rfl
@[simp] theorem State.setCursor_prime (k : Fin Config.numCursors) (v : Word) : (s.setCursor k v).prime = s.prime := rfl
@[simp] theorem State.setCursor_cur (k : Fin Config.numCursors) (v : Word) : (s.setCursor k v).cur = s.cur.set k v := rfl
@[simp] theorem State.setCursor_busy (k : Fin Config.numCursors) (v : Word) : (s.setCursor k v).busy = s.busy := rfl
@[simp] theorem State.setCursor_done (k : Fin Config.numCursors) (v : Word) : (s.setCursor k v).done = s.done := rfl
@[simp] theorem State.setCursor_err (k : Fin Config.numCursors) (v : Word) : (s.setCursor k v).err = s.err := rfl
@[simp] theorem State.setCursor_ovr (k : Fin Config.numCursors) (v : Word) : (s.setCursor k v).ovr = s.ovr := rfl
@[simp] theorem State.setCursor_pf (k : Fin Config.numCursors) (v : Word) : (s.setCursor k v).pf = s.pf := rfl
@[simp] theorem State.setCursor_th (k : Fin Config.numCursors) (v : Word) : (s.setCursor k v).th = s.th := rfl
@[simp] theorem State.setCursor_cause (k : Fin Config.numCursors) (v : Word) : (s.setCursor k v).cause = s.cause := rfl
@[simp] theorem State.setCursor_ecmd (k : Fin Config.numCursors) (v : Word) : (s.setCursor k v).ecmd = s.ecmd := rfl
@[simp] theorem State.setCursor_ieDone (k : Fin Config.numCursors) (v : Word) : (s.setCursor k v).ieDone = s.ieDone := rfl
@[simp] theorem State.setCursor_ieErr (k : Fin Config.numCursors) (v : Word) : (s.setCursor k v).ieErr = s.ieErr := rfl
@[simp] theorem State.setCursor_pend (k : Fin Config.numCursors) (v : Word) : (s.setCursor k v).pend = s.pend := rfl
@[simp] theorem State.setCursor_schedule (k : Fin Config.numCursors) (v : Word) : (s.setCursor k v).schedule = s.schedule := rfl
@[simp] theorem State.setCursor_resp (k : Fin Config.numCursors) (v : Word) : (s.setCursor k v).resp = s.resp := rfl

@[simp] theorem State.clearCursors_arg0 : s.clearCursors.arg0 = s.arg0 := rfl
@[simp] theorem State.clearCursors_arg1 : s.clearCursors.arg1 = s.arg1 := rfl
@[simp] theorem State.clearCursors_res : s.clearCursors.res = s.res := rfl
@[simp] theorem State.clearCursors_univ : s.clearCursors.univ = s.univ := rfl
@[simp] theorem State.clearCursors_seed : s.clearCursors.seed = s.seed := rfl
@[simp] theorem State.clearCursors_prime : s.clearCursors.prime = s.prime := rfl
@[simp] theorem State.clearCursors_cur : s.clearCursors.cur = Vector.replicate Config.numCursors 0 := rfl
@[simp] theorem State.clearCursors_busy : s.clearCursors.busy = s.busy := rfl
@[simp] theorem State.clearCursors_done : s.clearCursors.done = s.done := rfl
@[simp] theorem State.clearCursors_err : s.clearCursors.err = s.err := rfl
@[simp] theorem State.clearCursors_ovr : s.clearCursors.ovr = s.ovr := rfl
@[simp] theorem State.clearCursors_pf : s.clearCursors.pf = s.pf := rfl
@[simp] theorem State.clearCursors_th : s.clearCursors.th = s.th := rfl
@[simp] theorem State.clearCursors_cause : s.clearCursors.cause = s.cause := rfl
@[simp] theorem State.clearCursors_ecmd : s.clearCursors.ecmd = s.ecmd := rfl
@[simp] theorem State.clearCursors_ieDone : s.clearCursors.ieDone = s.ieDone := rfl
@[simp] theorem State.clearCursors_ieErr : s.clearCursors.ieErr = s.ieErr := rfl
@[simp] theorem State.clearCursors_pend : s.clearCursors.pend = s.pend := rfl
@[simp] theorem State.clearCursors_schedule : s.clearCursors.schedule = s.schedule := rfl
@[simp] theorem State.clearCursors_resp : s.clearCursors.resp = s.resp := rfl

@[simp] theorem State.setPf_arg0 (b : Bool) : (s.setPf b).arg0 = s.arg0 := rfl
@[simp] theorem State.setPf_arg1 (b : Bool) : (s.setPf b).arg1 = s.arg1 := rfl
@[simp] theorem State.setPf_res (b : Bool) : (s.setPf b).res = s.res := rfl
@[simp] theorem State.setPf_univ (b : Bool) : (s.setPf b).univ = s.univ := rfl
@[simp] theorem State.setPf_seed (b : Bool) : (s.setPf b).seed = s.seed := rfl
@[simp] theorem State.setPf_prime (b : Bool) : (s.setPf b).prime = s.prime := rfl
@[simp] theorem State.setPf_cur (b : Bool) : (s.setPf b).cur = s.cur := rfl
@[simp] theorem State.setPf_busy (b : Bool) : (s.setPf b).busy = s.busy := rfl
@[simp] theorem State.setPf_done (b : Bool) : (s.setPf b).done = s.done := rfl
@[simp] theorem State.setPf_err (b : Bool) : (s.setPf b).err = s.err := rfl
@[simp] theorem State.setPf_ovr (b : Bool) : (s.setPf b).ovr = s.ovr := rfl
@[simp] theorem State.setPf_pf (b : Bool) : (s.setPf b).pf = b := rfl
@[simp] theorem State.setPf_th (b : Bool) : (s.setPf b).th = s.th := rfl
@[simp] theorem State.setPf_cause (b : Bool) : (s.setPf b).cause = s.cause := rfl
@[simp] theorem State.setPf_ecmd (b : Bool) : (s.setPf b).ecmd = s.ecmd := rfl
@[simp] theorem State.setPf_ieDone (b : Bool) : (s.setPf b).ieDone = s.ieDone := rfl
@[simp] theorem State.setPf_ieErr (b : Bool) : (s.setPf b).ieErr = s.ieErr := rfl
@[simp] theorem State.setPf_pend (b : Bool) : (s.setPf b).pend = s.pend := rfl
@[simp] theorem State.setPf_schedule (b : Bool) : (s.setPf b).schedule = s.schedule := rfl
@[simp] theorem State.setPf_resp (b : Bool) : (s.setPf b).resp = s.resp := rfl

@[simp] theorem State.setTh_arg0 (b : Bool) : (s.setTh b).arg0 = s.arg0 := rfl
@[simp] theorem State.setTh_arg1 (b : Bool) : (s.setTh b).arg1 = s.arg1 := rfl
@[simp] theorem State.setTh_res (b : Bool) : (s.setTh b).res = s.res := rfl
@[simp] theorem State.setTh_univ (b : Bool) : (s.setTh b).univ = s.univ := rfl
@[simp] theorem State.setTh_seed (b : Bool) : (s.setTh b).seed = s.seed := rfl
@[simp] theorem State.setTh_prime (b : Bool) : (s.setTh b).prime = s.prime := rfl
@[simp] theorem State.setTh_cur (b : Bool) : (s.setTh b).cur = s.cur := rfl
@[simp] theorem State.setTh_busy (b : Bool) : (s.setTh b).busy = s.busy := rfl
@[simp] theorem State.setTh_done (b : Bool) : (s.setTh b).done = s.done := rfl
@[simp] theorem State.setTh_err (b : Bool) : (s.setTh b).err = s.err := rfl
@[simp] theorem State.setTh_ovr (b : Bool) : (s.setTh b).ovr = s.ovr := rfl
@[simp] theorem State.setTh_pf (b : Bool) : (s.setTh b).pf = s.pf := rfl
@[simp] theorem State.setTh_th (b : Bool) : (s.setTh b).th = b := rfl
@[simp] theorem State.setTh_cause (b : Bool) : (s.setTh b).cause = s.cause := rfl
@[simp] theorem State.setTh_ecmd (b : Bool) : (s.setTh b).ecmd = s.ecmd := rfl
@[simp] theorem State.setTh_ieDone (b : Bool) : (s.setTh b).ieDone = s.ieDone := rfl
@[simp] theorem State.setTh_ieErr (b : Bool) : (s.setTh b).ieErr = s.ieErr := rfl
@[simp] theorem State.setTh_pend (b : Bool) : (s.setTh b).pend = s.pend := rfl
@[simp] theorem State.setTh_schedule (b : Bool) : (s.setTh b).schedule = s.schedule := rfl
@[simp] theorem State.setTh_resp (b : Bool) : (s.setTh b).resp = s.resp := rfl

@[simp] theorem State.setCtrl_arg0 (v : Word) : (s.setCtrl v).arg0 = s.arg0 := rfl
@[simp] theorem State.setCtrl_arg1 (v : Word) : (s.setCtrl v).arg1 = s.arg1 := rfl
@[simp] theorem State.setCtrl_res (v : Word) : (s.setCtrl v).res = s.res := rfl
@[simp] theorem State.setCtrl_univ (v : Word) : (s.setCtrl v).univ = s.univ := rfl
@[simp] theorem State.setCtrl_seed (v : Word) : (s.setCtrl v).seed = s.seed := rfl
@[simp] theorem State.setCtrl_prime (v : Word) : (s.setCtrl v).prime = s.prime := rfl
@[simp] theorem State.setCtrl_cur (v : Word) : (s.setCtrl v).cur = s.cur := rfl
@[simp] theorem State.setCtrl_busy (v : Word) : (s.setCtrl v).busy = s.busy := rfl
@[simp] theorem State.setCtrl_done (v : Word) : (s.setCtrl v).done = s.done := rfl
@[simp] theorem State.setCtrl_err (v : Word) : (s.setCtrl v).err = s.err := rfl
@[simp] theorem State.setCtrl_ovr (v : Word) : (s.setCtrl v).ovr = s.ovr := rfl
@[simp] theorem State.setCtrl_pf (v : Word) : (s.setCtrl v).pf = s.pf := rfl
@[simp] theorem State.setCtrl_th (v : Word) : (s.setCtrl v).th = s.th := rfl
@[simp] theorem State.setCtrl_cause (v : Word) : (s.setCtrl v).cause = s.cause := rfl
@[simp] theorem State.setCtrl_ecmd (v : Word) : (s.setCtrl v).ecmd = s.ecmd := rfl
@[simp] theorem State.setCtrl_ieDone (v : Word) : (s.setCtrl v).ieDone = v.getLsbD 0 := rfl
@[simp] theorem State.setCtrl_ieErr (v : Word) : (s.setCtrl v).ieErr = v.getLsbD 1 := rfl
@[simp] theorem State.setCtrl_pend (v : Word) : (s.setCtrl v).pend = s.pend := rfl
@[simp] theorem State.setCtrl_schedule (v : Word) : (s.setCtrl v).schedule = s.schedule := rfl
@[simp] theorem State.setCtrl_resp (v : Word) : (s.setCtrl v).resp = s.resp := rfl

@[simp] theorem State.dropWrite_arg0 : s.dropWrite.arg0 = s.arg0 := rfl
@[simp] theorem State.dropWrite_arg1 : s.dropWrite.arg1 = s.arg1 := rfl
@[simp] theorem State.dropWrite_res : s.dropWrite.res = s.res := rfl
@[simp] theorem State.dropWrite_univ : s.dropWrite.univ = s.univ := rfl
@[simp] theorem State.dropWrite_seed : s.dropWrite.seed = s.seed := rfl
@[simp] theorem State.dropWrite_prime : s.dropWrite.prime = s.prime := rfl
@[simp] theorem State.dropWrite_cur : s.dropWrite.cur = s.cur := rfl
@[simp] theorem State.dropWrite_busy : s.dropWrite.busy = s.busy := rfl
@[simp] theorem State.dropWrite_done : s.dropWrite.done = s.done := rfl
@[simp] theorem State.dropWrite_err : s.dropWrite.err = s.err := rfl
@[simp] theorem State.dropWrite_ovr : s.dropWrite.ovr = true := rfl
@[simp] theorem State.dropWrite_pf : s.dropWrite.pf = s.pf := rfl
@[simp] theorem State.dropWrite_th : s.dropWrite.th = s.th := rfl
@[simp] theorem State.dropWrite_cause : s.dropWrite.cause = s.cause := rfl
@[simp] theorem State.dropWrite_ecmd : s.dropWrite.ecmd = s.ecmd := rfl
@[simp] theorem State.dropWrite_ieDone : s.dropWrite.ieDone = s.ieDone := rfl
@[simp] theorem State.dropWrite_ieErr : s.dropWrite.ieErr = s.ieErr := rfl
@[simp] theorem State.dropWrite_pend : s.dropWrite.pend = s.pend := rfl
@[simp] theorem State.dropWrite_schedule : s.dropWrite.schedule = s.schedule := rfl
@[simp] theorem State.dropWrite_resp : s.dropWrite.resp = s.resp := rfl

@[simp] theorem State.issue_arg0 (v : Word) : (s.issue v).arg0 = s.arg0 := rfl
@[simp] theorem State.issue_arg1 (v : Word) : (s.issue v).arg1 = s.arg1 := rfl
@[simp] theorem State.issue_res (v : Word) : (s.issue v).res = s.res := rfl
@[simp] theorem State.issue_univ (v : Word) : (s.issue v).univ = s.univ := rfl
@[simp] theorem State.issue_seed (v : Word) : (s.issue v).seed = s.seed := rfl
@[simp] theorem State.issue_prime (v : Word) : (s.issue v).prime = s.prime := rfl
@[simp] theorem State.issue_cur (v : Word) : (s.issue v).cur = s.cur := rfl
@[simp] theorem State.issue_busy (v : Word) : (s.issue v).busy = true := rfl
@[simp] theorem State.issue_done (v : Word) : (s.issue v).done = false := rfl
@[simp] theorem State.issue_err (v : Word) : (s.issue v).err = s.err := rfl
@[simp] theorem State.issue_ovr (v : Word) : (s.issue v).ovr = s.ovr := rfl
@[simp] theorem State.issue_pf (v : Word) : (s.issue v).pf = s.pf := rfl
@[simp] theorem State.issue_th (v : Word) : (s.issue v).th = s.th := rfl
@[simp] theorem State.issue_cause (v : Word) : (s.issue v).cause = s.cause := rfl
@[simp] theorem State.issue_ecmd (v : Word) : (s.issue v).ecmd = s.ecmd := rfl
@[simp] theorem State.issue_ieDone (v : Word) : (s.issue v).ieDone = s.ieDone := rfl
@[simp] theorem State.issue_ieErr (v : Word) : (s.issue v).ieErr = s.ieErr := rfl
@[simp] theorem State.issue_pend (v : Word) : (s.issue v).pend = v := rfl
@[simp] theorem State.issue_schedule (v : Word) : (s.issue v).schedule = s.schedule := rfl
@[simp] theorem State.issue_resp (v : Word) : (s.issue v).resp = s.resp := rfl

@[simp] theorem State.retire_arg0 : s.retire.arg0 = s.arg0 := rfl
@[simp] theorem State.retire_arg1 : s.retire.arg1 = s.arg1 := rfl
@[simp] theorem State.retire_res : s.retire.res = s.res := rfl
@[simp] theorem State.retire_univ : s.retire.univ = s.univ := rfl
@[simp] theorem State.retire_seed : s.retire.seed = s.seed := rfl
@[simp] theorem State.retire_prime : s.retire.prime = s.prime := rfl
@[simp] theorem State.retire_cur : s.retire.cur = s.cur := rfl
@[simp] theorem State.retire_busy : s.retire.busy = false := rfl
@[simp] theorem State.retire_done : s.retire.done = true := rfl
@[simp] theorem State.retire_err : s.retire.err = s.err := rfl
@[simp] theorem State.retire_ovr : s.retire.ovr = s.ovr := rfl
@[simp] theorem State.retire_pf : s.retire.pf = s.pf := rfl
@[simp] theorem State.retire_th : s.retire.th = s.th := rfl
@[simp] theorem State.retire_cause : s.retire.cause = s.cause := rfl
@[simp] theorem State.retire_ecmd : s.retire.ecmd = s.ecmd := rfl
@[simp] theorem State.retire_ieDone : s.retire.ieDone = s.ieDone := rfl
@[simp] theorem State.retire_ieErr : s.retire.ieErr = s.ieErr := rfl
@[simp] theorem State.retire_pend : s.retire.pend = s.pend := rfl
@[simp] theorem State.retire_schedule : s.retire.schedule = s.schedule := rfl
@[simp] theorem State.retire_resp : s.retire.resp = s.resp := rfl

@[simp] theorem State.enterFault_arg0 (c : Cause) : (s.enterFault c).arg0 = s.arg0 := rfl
@[simp] theorem State.enterFault_arg1 (c : Cause) : (s.enterFault c).arg1 = s.arg1 := rfl
@[simp] theorem State.enterFault_res (c : Cause) : (s.enterFault c).res = s.res := rfl
@[simp] theorem State.enterFault_univ (c : Cause) : (s.enterFault c).univ = s.univ := rfl
@[simp] theorem State.enterFault_seed (c : Cause) : (s.enterFault c).seed = s.seed := rfl
@[simp] theorem State.enterFault_prime (c : Cause) : (s.enterFault c).prime = s.prime := rfl
@[simp] theorem State.enterFault_cur (c : Cause) : (s.enterFault c).cur = s.cur := rfl
@[simp] theorem State.enterFault_busy (c : Cause) : (s.enterFault c).busy = false := rfl
@[simp] theorem State.enterFault_done (c : Cause) : (s.enterFault c).done = false := rfl
@[simp] theorem State.enterFault_err (c : Cause) : (s.enterFault c).err = true := rfl
@[simp] theorem State.enterFault_ovr (c : Cause) : (s.enterFault c).ovr = s.ovr := rfl
@[simp] theorem State.enterFault_pf (c : Cause) : (s.enterFault c).pf = s.pf := rfl
@[simp] theorem State.enterFault_th (c : Cause) : (s.enterFault c).th = s.th := rfl
@[simp] theorem State.enterFault_cause (c : Cause) : (s.enterFault c).cause = c.code := rfl
@[simp] theorem State.enterFault_ecmd (c : Cause) : (s.enterFault c).ecmd = s.pend := rfl
@[simp] theorem State.enterFault_ieDone (c : Cause) : (s.enterFault c).ieDone = s.ieDone := rfl
@[simp] theorem State.enterFault_ieErr (c : Cause) : (s.enterFault c).ieErr = s.ieErr := rfl
@[simp] theorem State.enterFault_pend (c : Cause) : (s.enterFault c).pend = s.pend := rfl
@[simp] theorem State.enterFault_schedule (c : Cause) : (s.enterFault c).schedule = s.schedule := rfl
@[simp] theorem State.enterFault_resp (c : Cause) : (s.enterFault c).resp = s.resp := rfl

@[simp] theorem State.acknowledge_arg0 : s.acknowledge.arg0 = s.arg0 := rfl
@[simp] theorem State.acknowledge_arg1 : s.acknowledge.arg1 = s.arg1 := rfl
@[simp] theorem State.acknowledge_res : s.acknowledge.res = s.res := rfl
@[simp] theorem State.acknowledge_univ : s.acknowledge.univ = s.univ := rfl
@[simp] theorem State.acknowledge_seed : s.acknowledge.seed = s.seed := rfl
@[simp] theorem State.acknowledge_prime : s.acknowledge.prime = s.prime := rfl
@[simp] theorem State.acknowledge_cur : s.acknowledge.cur = s.cur := rfl
@[simp] theorem State.acknowledge_busy : s.acknowledge.busy = s.busy := rfl
@[simp] theorem State.acknowledge_done : s.acknowledge.done = false := rfl
@[simp] theorem State.acknowledge_err : s.acknowledge.err = false := rfl
@[simp] theorem State.acknowledge_ovr : s.acknowledge.ovr = false := rfl
@[simp] theorem State.acknowledge_pf : s.acknowledge.pf = s.pf := rfl
@[simp] theorem State.acknowledge_th : s.acknowledge.th = s.th := rfl
@[simp] theorem State.acknowledge_cause : s.acknowledge.cause = 0 := rfl
@[simp] theorem State.acknowledge_ecmd : s.acknowledge.ecmd = 0 := rfl
@[simp] theorem State.acknowledge_ieDone : s.acknowledge.ieDone = s.ieDone := rfl
@[simp] theorem State.acknowledge_ieErr : s.acknowledge.ieErr = s.ieErr := rfl
@[simp] theorem State.acknowledge_pend : s.acknowledge.pend = s.pend := rfl
@[simp] theorem State.acknowledge_schedule : s.acknowledge.schedule = s.schedule := rfl
@[simp] theorem State.acknowledge_resp : s.acknowledge.resp = s.resp := rfl

@[simp] theorem State.setSchedule_arg0 (ts : List Turn) : (s.setSchedule ts).arg0 = s.arg0 := rfl
@[simp] theorem State.setSchedule_arg1 (ts : List Turn) : (s.setSchedule ts).arg1 = s.arg1 := rfl
@[simp] theorem State.setSchedule_res (ts : List Turn) : (s.setSchedule ts).res = s.res := rfl
@[simp] theorem State.setSchedule_univ (ts : List Turn) : (s.setSchedule ts).univ = s.univ := rfl
@[simp] theorem State.setSchedule_seed (ts : List Turn) : (s.setSchedule ts).seed = s.seed := rfl
@[simp] theorem State.setSchedule_prime (ts : List Turn) : (s.setSchedule ts).prime = s.prime := rfl
@[simp] theorem State.setSchedule_cur (ts : List Turn) : (s.setSchedule ts).cur = s.cur := rfl
@[simp] theorem State.setSchedule_busy (ts : List Turn) : (s.setSchedule ts).busy = s.busy := rfl
@[simp] theorem State.setSchedule_done (ts : List Turn) : (s.setSchedule ts).done = s.done := rfl
@[simp] theorem State.setSchedule_err (ts : List Turn) : (s.setSchedule ts).err = s.err := rfl
@[simp] theorem State.setSchedule_ovr (ts : List Turn) : (s.setSchedule ts).ovr = s.ovr := rfl
@[simp] theorem State.setSchedule_pf (ts : List Turn) : (s.setSchedule ts).pf = s.pf := rfl
@[simp] theorem State.setSchedule_th (ts : List Turn) : (s.setSchedule ts).th = s.th := rfl
@[simp] theorem State.setSchedule_cause (ts : List Turn) : (s.setSchedule ts).cause = s.cause := rfl
@[simp] theorem State.setSchedule_ecmd (ts : List Turn) : (s.setSchedule ts).ecmd = s.ecmd := rfl
@[simp] theorem State.setSchedule_ieDone (ts : List Turn) : (s.setSchedule ts).ieDone = s.ieDone := rfl
@[simp] theorem State.setSchedule_ieErr (ts : List Turn) : (s.setSchedule ts).ieErr = s.ieErr := rfl
@[simp] theorem State.setSchedule_pend (ts : List Turn) : (s.setSchedule ts).pend = s.pend := rfl
@[simp] theorem State.setSchedule_schedule (ts : List Turn) : (s.setSchedule ts).schedule = ts := rfl
@[simp] theorem State.setSchedule_resp (ts : List Turn) : (s.setSchedule ts).resp = s.resp := rfl

@[simp] theorem State.setResp_arg0 (r : Response) : (s.setResp r).arg0 = s.arg0 := rfl
@[simp] theorem State.setResp_arg1 (r : Response) : (s.setResp r).arg1 = s.arg1 := rfl
@[simp] theorem State.setResp_res (r : Response) : (s.setResp r).res = s.res := rfl
@[simp] theorem State.setResp_univ (r : Response) : (s.setResp r).univ = s.univ := rfl
@[simp] theorem State.setResp_seed (r : Response) : (s.setResp r).seed = s.seed := rfl
@[simp] theorem State.setResp_prime (r : Response) : (s.setResp r).prime = s.prime := rfl
@[simp] theorem State.setResp_cur (r : Response) : (s.setResp r).cur = s.cur := rfl
@[simp] theorem State.setResp_busy (r : Response) : (s.setResp r).busy = s.busy := rfl
@[simp] theorem State.setResp_done (r : Response) : (s.setResp r).done = s.done := rfl
@[simp] theorem State.setResp_err (r : Response) : (s.setResp r).err = s.err := rfl
@[simp] theorem State.setResp_ovr (r : Response) : (s.setResp r).ovr = s.ovr := rfl
@[simp] theorem State.setResp_pf (r : Response) : (s.setResp r).pf = s.pf := rfl
@[simp] theorem State.setResp_th (r : Response) : (s.setResp r).th = s.th := rfl
@[simp] theorem State.setResp_cause (r : Response) : (s.setResp r).cause = s.cause := rfl
@[simp] theorem State.setResp_ecmd (r : Response) : (s.setResp r).ecmd = s.ecmd := rfl
@[simp] theorem State.setResp_ieDone (r : Response) : (s.setResp r).ieDone = s.ieDone := rfl
@[simp] theorem State.setResp_ieErr (r : Response) : (s.setResp r).ieErr = s.ieErr := rfl
@[simp] theorem State.setResp_pend (r : Response) : (s.setResp r).pend = s.pend := rfl
@[simp] theorem State.setResp_schedule (r : Response) : (s.setResp r).schedule = s.schedule := rfl
@[simp] theorem State.setResp_resp (r : Response) : (s.setResp r).resp = r := rfl

end Sys2Proof.Machine
end

