-- ==== Sys2Proof/Laws/Ops.lean ====
section
/-! SUPPORT. What each shared operation can do, said once; provers cite these instead of unfolding the operations. -/

namespace Sys2Proof.Machine

@[simp] theorem raise_eq (c : Cause) (s : State) : raise c s = .next (s.enterFault c) := rfl

@[simp] theorem finish_eq (s : State) : finish s = .next s.retire := rfl

@[simp] theorem guardFault_true (c : Cause) (s : State) (r : Result) :
    guardFault true c s r = .next (s.enterFault c) := rfl

@[simp] theorem guardFault_false (c : Cause) (s : State) (r : Result) : guardFault false c s r = r := rfl

/-- A checked completion either makes the fault entry or goes on as its body does. -/
theorem guardFault_next {bad : Bool} {c : Cause} {s t : State} {r : Result} (h : guardFault bad c s r = .next t) :
    (bad = true ∧ t = s.enterFault c) ∨ (bad = false ∧ r = .next t) := by
  cases bad
  · exact .inr ⟨rfl, h⟩
  · exact .inl ⟨rfl, by simpa using h.symm⟩

@[simp] theorem Operand.word_arg0 (s : State) : Operand.arg0.word s = s.arg0 := rfl
@[simp] theorem Operand.word_arg1 (s : State) : Operand.arg1.word s = s.arg1 := rfl
@[simp] theorem Operand.word_univ (s : State) : Operand.univ.word s = s.univ := rfl
@[simp] theorem Operand.word_seed (s : State) : Operand.seed.word s = s.seed := rfl
@[simp] theorem Operand.word_prime (s : State) : Operand.prime.word s = s.prime := rfl
@[simp] theorem Operand.word_cursor (s : State) (k : Fin Config.numCursors) :
    (Operand.cursor k).word s = s.cur[k] := rfl
@[simp] theorem Operand.value_eq (o : Operand) (s : State) : o.value s = (o.word s).toNat := rfl

/-- The codes a fault entry can record (60_exceptions.md R261). -/
theorem Cause.code_range (c : Cause) : 1 ≤ c.code.toNat ∧ c.code.toNat ≤ 4 := by cases c <;> decide

/-- ACK always answers a next state: the five writes when idle, the mark of a dropped write when busy. -/
theorem execAck_next (s : State) :
    (s.busy = false ∧ execAck s = .next s.acknowledge) ∨ (s.busy = true ∧ execAck s = .next s.dropWrite) := by
  cases h : s.busy <;> simp [execAck, h]

/-- What a completion of any command but ACK can do: the fault entry, or the end of a completion after its own writes. -/
theorem exec_next {i : Instr} (s : State) (hi : i ≠ .ack) :
    (∃ c, exec i s = .next (s.enterFault c)) ∨ (∃ w : State, exec i s = .next w.retire) := by
  cases i <;> first
    | exact absurd rfl hi
    | exact .inr ⟨_, rfl⟩
    | (simp only [exec, execConstruct, execConstructNt, constructWith, execModsq, execPermute, execEval, execSeqstart,
        execSeqnext, guardFault]
       split
       · exact .inl ⟨_, rfl⟩
       · exact .inr ⟨_, rfl⟩)

/-- What the engine's completion can do: fault ILLCMD on a word that is no command for it, or run the command. -/
theorem completePending_cases (s : State) :
    (((∃ e, decode s.pend = .error e) ∨ decode s.pend = .ok .ack) ∧
        completePending s = .next (s.enterFault .illcmd)) ∨
    (∃ i, i ≠ .ack ∧ decode s.pend = .ok i ∧ completePending s = exec i s) := by
  unfold completePending
  split
  · exact .inl ⟨.inl ⟨_, ‹_›⟩, rfl⟩
  · exact .inl ⟨.inr ‹_›, rfl⟩
  · exact .inr ⟨_, ‹_›, ‹_›, rfl⟩

/-- What the engine's turn can do: nothing when idle, the completion when busy. -/
theorem engineTurn_cases (s : State) :
    (s.busy = false ∧ engineTurn s = .next s) ∨ (s.busy = true ∧ engineTurn s = completePending s) := by
  cases h : s.busy <;> simp [engineTurn, h]

/-- What a host read can do: stop outside the window, be refused, or return a value. -/
theorem hostRead_cases (s : State) (size : AccessSize) (off : Nat) :
    (inWindow off = false ∧ hostRead s size off = .fault .outsideWindow) ∨
    (inWindow off = true ∧ admitted size off = false ∧ hostRead s size off = .next (s.setResp .error)) ∨
    (admitted size off = true ∧
      hostRead s size off = .next (s.setResp (.data (regValue s (locationAt off))))) := by
  unfold hostRead
  cases hw : inWindow off <;> cases ha : admitted size off <;> simp_all [admitted]

/-- What a host write can do: stop outside the window, be refused, or be answered. -/
theorem hostWrite_cases (s : State) (size : AccessSize) (off : Nat) (v : Word) :
    (inWindow off = false ∧ hostWrite s size off v = .fault .outsideWindow) ∨
    (inWindow off = true ∧ admitted size off = false ∧ hostWrite s size off v = .next (s.setResp .error)) ∨
    (admitted size off = true ∧ hostWrite s size off v = answered (regWrite s (locationAt off) v)) := by
  unfold hostWrite
  cases hw : inWindow off <;> cases ha : admitted size off <;> simp_all [admitted]

/-- The command port's four cases (20_memory.md R67). -/
theorem writeCommand_cases (s : State) (v : Word) :
    (s.busy = true ∧ writeCommand s v = .next s.dropWrite) ∨
    (s.busy = false ∧ v = ackWord ∧ writeCommand s v = .next s.acknowledge) ∨
    (s.busy = false ∧ v ≠ ackWord ∧ s.err = true ∧ writeCommand s v = .next s.dropWrite) ∨
    (s.busy = false ∧ v ≠ ackWord ∧ s.err = false ∧ writeCommand s v = .next (s.issue v)) := by
  unfold writeCommand
  by_cases hv : v = ackWord <;> cases hb : s.busy <;> cases he : s.err <;> simp [hv, exec, execAck, hb]

/-- An admitted write: the location's register, a dropped write, the command port, or nothing. -/
theorem regWrite_cases (s : State) (l : Loc) (v : Word) :
    (l = .ctrl ∧ regWrite s l v = .next (s.setCtrl v)) ∨
    (l = .cmd ∧ regWrite s l v = writeCommand s v) ∨
    (l = .arg0 ∧ regWrite s l v = writeOperand s (s.setArg0 v)) ∨
    (l = .arg1 ∧ regWrite s l v = writeOperand s (s.setArg1 v)) ∨
    (l ≠ .ctrl ∧ l ≠ .cmd ∧ l ≠ .arg0 ∧ l ≠ .arg1 ∧ regWrite s l v = .next s) := by
  cases l <;> simp [regWrite]

/-- A write to an operand register, stored when idle and dropped when busy (20_memory.md R64, R66). -/
theorem writeOperand_cases (s w : State) :
    (s.busy = false ∧ writeOperand s w = .next w) ∨ (s.busy = true ∧ writeOperand s w = .next s.dropWrite) := by
  cases h : s.busy <;> simp [writeOperand, h]

@[simp] theorem answered_next (s : State) : answered (.next s) = .next (s.setResp .ok) := rfl

/-- One step: the engine's turn with nothing scheduled, else the schedule's first turn on the state without it. -/
theorem step_cases (s : State) :
    (s.schedule = [] ∧ step s = engineTurn s) ∨
    (∃ t rest, s.schedule = t :: rest ∧ step s = takeTurn t (s.setSchedule rest)) := by
  unfold step advance
  split
  · exact .inl ⟨‹_›, rfl⟩
  · exact .inr ⟨_, _, ‹_›, rfl⟩

@[simp] theorem takeTurn_read (s : State) (size : AccessSize) (off : Nat) :
    takeTurn (.read size off) s = hostRead s size off := rfl
@[simp] theorem takeTurn_write (s : State) (size : AccessSize) (off : Nat) (v : Word) :
    takeTurn (.write size off v) s = hostWrite s size off v := rfl
@[simp] theorem takeTurn_engine (s : State) : takeTurn .engine s = engineTurn s := rfl
@[simp] theorem takeTurn_reset (s : State) : takeTurn .reset s = .next (applyReset s) := rfl

end Sys2Proof.Machine
end

