-- ==== Sys2Proof/Laws/PerInstr.lean ====
section
/-! SUPPORT. A statement for all commands, made per constructor: the encoded value agrees with the command's row of
spec/opcode_table.json, in its fixed bits (match and mask), and with bits 63:32 clear (30_encoding.md R90, R95). -/

namespace Sys2Proof.Laws.EncodeMatchesRow

/-- The row's match and mask. -/
def row : Instr → BitVec 32 × BitVec 32
  | .isqrtf => (0x00000001#32, 0xFFFFFFFF#32)
  | .isqrtc => (0x00000101#32, 0xFFFFFFFF#32)
  | .isprime => (0x00000002#32, 0xFFFFFFFF#32)
  | .ppred => (0x00000003#32, 0xFFFFFFFF#32)
  | .selprime => (0x00000004#32, 0xFFFFFFFF#32)
  | .selprimeNt => (0x00000104#32, 0xFFFFFFFF#32)
  | .modsq => (0x00000005#32, 0xFFFFFFFF#32)
  | .construct => (0x00000008#32, 0xFFFFFFFF#32)
  | .constructNt => (0x00000108#32, 0xFFFFFFFF#32)
  | .defaultInstance => (0x00000009#32, 0xFFFFFFFF#32)
  | .permute => (0x0000000A#32, 0xFFFFFFFF#32)
  | .eval => (0x0000000B#32, 0xFFFFFFFF#32)
  | .seqstart _ => (0x0000000C#32, 0xFFFFF3FF#32)
  | .seqnext _ => (0x0000000D#32, 0xFFFFF3FF#32)
  | .ack => (0x0000000F#32, 0xFFFFFFFF#32)

/-- The encoded value has the row's fixed bits, and nothing in its high half. -/
def Statement (i : Instr) : Prop :=
  commandBits (encode i) &&& (row i).2 = (row i).1 ∧ highHalfClear (encode i) = true

theorem isqrtf : Statement .isqrtf := ⟨rfl, rfl⟩
theorem isqrtc : Statement .isqrtc := ⟨rfl, rfl⟩
theorem isprime : Statement .isprime := ⟨rfl, rfl⟩
theorem ppred : Statement .ppred := ⟨rfl, rfl⟩
theorem selprime : Statement .selprime := ⟨rfl, rfl⟩
theorem selprimeNt : Statement .selprimeNt := ⟨rfl, rfl⟩
theorem modsq : Statement .modsq := ⟨rfl, rfl⟩
theorem construct : Statement .construct := ⟨rfl, rfl⟩
theorem constructNt : Statement .constructNt := ⟨rfl, rfl⟩
theorem defaultInstance : Statement .defaultInstance := ⟨rfl, rfl⟩
theorem permute : Statement .permute := ⟨rfl, rfl⟩
theorem eval : Statement .eval := ⟨rfl, rfl⟩
theorem seqstart (k : Fin Config.numCursors) : Statement (.seqstart k) := by revert k; unfold Statement; decide
theorem seqnext (k : Fin Config.numCursors) : Statement (.seqnext k) := by revert k; unfold Statement; decide
theorem ack : Statement .ack := ⟨rfl, rfl⟩

end Sys2Proof.Laws.EncodeMatchesRow
end

