-- ==== Sys2Proof/Laws/TablePrimes.lean ====
section
/-! SUPPORT. The eight primes of the common-universe ROM (42_construction.md R171): each is a prime, by a certificate
of Lucas's test, and no number between it and its universe that is 3 modulo 4 is one, by a list of divisors. -/

namespace Sys2Proof.Machine

/-- `a ^ n mod m` by squaring, times the accumulator. -/
def powMod (m : Nat) : Nat → Nat → Nat → Nat → Nat
  | 0, _, _, acc => acc
  | fuel + 1, a, n, acc =>
    if n = 0 then acc else powMod m fuel (a * a % m) (n / 2) (if n % 2 = 1 then acc * a % m else acc)

theorem powMod_spec (m : Nat) : ∀ fuel a n acc, n < 2 ^ fuel → powMod m fuel a n acc % m = acc * a ^ n % m := by
  intro fuel
  induction fuel with
  | zero =>
    intro a n acc h
    have : n = 0 := by simpa using h
    subst this; simp [powMod]
  | succ fuel ih =>
    intro a n acc h
    rw [powMod]
    split
    · rename_i h0; subst h0; simp
    · rw [ih _ _ _ (by omega)]
      have e : n = 2 * (n / 2) + n % 2 := by omega
      conv_rhs => rw [e, pow_add, pow_mul]
      rcases Nat.mod_two_eq_zero_or_one n with h2 | h2
      · rw [h2, if_neg (by omega)]
        exact ((Nat.ModEq.refl acc).mul ((Nat.mod_modEq _ _).pow _)).trans
          (by rw [show acc * (a * a) ^ (n / 2) = acc * ((a ^ 2) ^ (n / 2) * a ^ 0) by ring])
      · rw [h2, if_pos rfl]
        exact ((Nat.mod_modEq _ _).mul ((Nat.mod_modEq _ _).pow _)).trans
          (by rw [show acc * a * (a * a) ^ (n / 2) = acc * ((a ^ 2) ^ (n / 2) * a ^ 1) by ring])

/-- Lucas's test with base `a`, for the factorisation `qs` of `p - 1`. -/
theorem prime_of_certificate (p a : Nat) (qs : List Nat) (hp : 2 ≤ p) (h64 : p < 2 ^ 64) (hq : ∀ q ∈ qs, q.Prime)
    (hn : p - 1 = qs.prod) (h1 : powMod p 64 a (p - 1) 1 % p = 1)
    (h3 : ∀ q ∈ qs, powMod p 64 a ((p - 1) / q) 1 % p ≠ 1) : p.Prime := by
  have key : ∀ n, n < 2 ^ 64 → ((a : ZMod p) ^ n = 1 ↔ powMod p 64 a n 1 % p = 1) := by
    intro n h
    have : ((a : ZMod p) ^ n = 1) ↔ ((a ^ n : Nat) : ZMod p) = ((1 : Nat) : ZMod p) := by push_cast; rfl
    rw [this, ZMod.natCast_eq_natCast_iff', Nat.mod_eq_of_lt (show 1 < p by omega), powMod_spec _ _ _ _ _ h,
      one_mul]
  apply lucas_primality p (a : ZMod p)
  · rw [key _ (by omega)]; exact h1
  · intro q hpq hd
    rw [hn] at hd
    obtain ⟨r, hr, hd⟩ := (Prime.dvd_prod_iff hpq.prime).mp hd
    have : q = r := (Nat.prime_dvd_prime_iff_eq hpq (hq r hr)).mp hd
    subst this
    rw [Ne, key _ (lt_of_le_of_lt (Nat.div_le_self _ _) (by omega))]
    exact h3 q hr

/-- `q`, `q + 4`, `q + 8`, … have the listed divisors. -/
def gapComposite : Nat → List Nat → Bool
  | _, [] => true
  | q, d :: ds => decide (1 < d ∧ d < q ∧ q % d = 0) && gapComposite (q + 4) ds

theorem not_prime_of_gapComposite : ∀ (ds : List Nat) (q r : Nat), gapComposite q ds = true → q ≤ r →
    r < q + 4 * ds.length → r % 4 = q % 4 → ¬ r.Prime := by
  intro ds
  induction ds with
  | nil => intro q r _ h1 h2; simp at h2; omega
  | cons d ds ih =>
    intro q r h h1 h2 h3 hr
    simp only [gapComposite, Bool.and_eq_true, decide_eq_true_eq] at h
    obtain ⟨⟨hd1, hd2, hd3⟩, h⟩ := h
    by_cases hqr : r = q
    · subst hqr
      rcases (Nat.dvd_prime hr).mp (Nat.dvd_of_mod_eq_zero hd3) with h | h <;> omega
    · exact ih (q + 4) r h (by omega) (by simp at h2; omega) (by omega) hr

theorem prime_65519 : Nat.Prime 65519 := by norm_num

theorem prime_16777199 : Nat.Prime 16777199 :=
  prime_of_certificate _ 19 [2, 17, 493447] (by decide) (by decide) (by simp; norm_num) (by decide)
    (by decide +kernel) (by decide +kernel)

theorem prime_22605091 : Nat.Prime 22605091 :=
  prime_of_certificate _ 11 [2, 3, 5, 23, 181, 181] (by decide) (by decide) (by simp; norm_num) (by decide)
    (by decide +kernel) (by decide +kernel)

theorem prime_4294967291 : Nat.Prime 4294967291 :=
  prime_of_certificate _ 2 [2, 5, 19, 22605091] (by decide) (by decide) (by simp [prime_22605091]; norm_num) (by decide)
    (by decide +kernel) (by decide +kernel)

theorem prime_1099511627563 : Nat.Prime 1099511627563 :=
  prime_of_certificate _ 3 [2, 3, 3, 34483, 1771423] (by decide) (by decide) (by simp; norm_num) (by decide)
    (by decide +kernel) (by decide +kernel)

theorem prime_10038817 : Nat.Prime 10038817 :=
  prime_of_certificate _ 7 [2, 2, 2, 2, 2, 3, 3, 3, 3, 3, 1291] (by decide) (by decide) (by simp; norm_num) (by decide)
    (by decide +kernel) (by decide +kernel)

theorem prime_6203988907 : Nat.Prime 6203988907 :=
  prime_of_certificate _ 2 [2, 3, 103, 10038817] (by decide) (by decide) (by simp [prime_10038817]; norm_num) (by decide)
    (by decide +kernel) (by decide +kernel)

theorem prime_281474976710591 : Nat.Prime 281474976710591 :=
  prime_of_certificate _ 31 [2, 5, 13, 349, 6203988907] (by decide) (by decide) (by simp [prime_6203988907]; norm_num) (by decide)
    (by decide +kernel) (by decide +kernel)

theorem prime_72057594037927931 : Nat.Prime 72057594037927931 :=
  prime_of_certificate _ 6 [2, 5, 1871, 2207, 2621, 665789] (by decide) (by decide) (by simp; norm_num) (by decide)
    (by decide +kernel) (by decide +kernel)

theorem prime_456065899 : Nat.Prime 456065899 :=
  prime_of_certificate _ 2 [2, 3, 1471, 51673] (by decide) (by decide) (by simp; norm_num) (by decide)
    (by decide +kernel) (by decide +kernel)

theorem prime_9223372036854775783 : Nat.Prime 9223372036854775783 :=
  prime_of_certificate _ 3 [2, 3, 3, 3, 3, 17, 23, 319279, 456065899] (by decide) (by decide) (by simp [prime_456065899]; norm_num) (by decide)
    (by decide +kernel) (by decide +kernel)

theorem prime_27552601 : Nat.Prime 27552601 :=
  prime_of_certificate _ 7 [2, 2, 2, 3, 3, 5, 5, 15307] (by decide) (by decide) (by simp; norm_num) (by decide)
    (by decide +kernel) (by decide +kernel)

theorem prime_16373353565059 : Nat.Prime 16373353565059 :=
  prime_of_certificate _ 2 [2, 3, 7, 14149, 27552601] (by decide) (by decide) (by simp [prime_27552601]; norm_num) (by decide)
    (by decide +kernel) (by decide +kernel)

theorem prime_133672058505141677 : Nat.Prime 133672058505141677 :=
  prime_of_certificate _ 2 [2, 2, 13, 157, 16373353565059] (by decide) (by decide) (by simp [prime_16373353565059]; norm_num) (by decide)
    (by decide +kernel) (by decide +kernel)

theorem prime_18446744073709551427 : Nat.Prime 18446744073709551427 :=
  prime_of_certificate _ 2 [2, 3, 23, 133672058505141677] (by decide) (by decide) (by simp [prime_133672058505141677]; norm_num) (by decide)
    (by decide +kernel) (by decide +kernel)

/-- No prime that is 3 modulo 4 lies above the table's prime for `2^16 - 2` and `2^16 - 1`. -/
theorem gap_16 {q : Nat} (h1 : 65519 < q) (h2 : q ≤ 65535) (h3 : q % 4 = 3) : ¬ q.Prime :=
  not_prime_of_gapComposite
    [3, 7, 19, 3]
    65523 q (by decide +kernel) (by omega) (by simp; omega) (by omega)

/-- No prime that is 3 modulo 4 lies above the table's prime for `2^24 - 2` and `2^24 - 1`. -/
theorem gap_24 {q : Nat} (h1 : 16777199 < q) (h2 : q ≤ 16777215) (h3 : q % 4 = 3) : ¬ q.Prime :=
  not_prime_of_gapComposite
    [3, 4093, 11, 3]
    16777203 q (by decide +kernel) (by omega) (by simp; omega) (by omega)

/-- No prime that is 3 modulo 4 lies above the table's prime for `2^32 - 2` and `2^32 - 1`. -/
theorem gap_32 {q : Nat} (h1 : 4294967291 < q) (h2 : q ≤ 4294967295) (h3 : q % 4 = 3) : ¬ q.Prime :=
  not_prime_of_gapComposite
    [3]
    4294967295 q (by decide +kernel) (by omega) (by simp; omega) (by omega)

/-- No prime that is 3 modulo 4 lies above the table's prime for `2^40 - 2` and `2^40 - 1`. -/
theorem gap_40 {q : Nat} (h1 : 1099511627563 < q) (h2 : q ≤ 1099511627775) (h3 : q % 4 = 3) : ¬ q.Prime :=
  not_prime_of_gapComposite
    [3019, 3, 5, 23, 3, 1579, 13, 3, 7, 28349, 3, 41, 5, 3, 15053, 7, 3, 5, 17, 3, 2069, 31, 3, 1447,
      251, 3, 23, 5, 3, 7, 11, 3, 5, 358277, 3, 17, 7, 3, 6277, 37, 3, 11, 5, 3, 601591, 13, 3, 5, 59, 3,
      7, 191, 3]
    1099511627567 q (by decide +kernel) (by omega) (by simp; omega) (by omega)

/-- No prime that is 3 modulo 4 lies above the table's prime for `2^48 - 2` and `2^48 - 1`. -/
theorem gap_48 {q : Nat} (h1 : 281474976710591 < q) (h2 : q ≤ 281474976710655) (h3 : q % 4 = 3) : ¬ q.Prime :=
  not_prime_of_gapComposite
    [3, 7, 13, 3, 59, 5, 3, 149, 7, 3, 5, 1019, 3, 1549, 199, 3]
    281474976710595 q (by decide +kernel) (by omega) (by simp; omega) (by omega)

/-- No prime that is 3 modulo 4 lies above the table's prime for `2^56 - 2` and `2^56 - 1`. -/
theorem gap_56 {q : Nat} (h1 : 72057594037927931 < q) (h2 : q ≤ 72057594037927935) (h3 : q % 4 = 3) : ¬ q.Prime :=
  not_prime_of_gapComposite
    [3]
    72057594037927935 q (by decide +kernel) (by omega) (by simp; omega) (by omega)

/-- No prime that is 3 modulo 4 lies above the table's prime for `2^63 - 2` and `2^63 - 1`. -/
theorem gap_63 {q : Nat} (h1 : 9223372036854775783 < q) (h2 : q ≤ 9223372036854775807) (h3 : q % 4 = 3) : ¬ q.Prime :=
  not_prime_of_gapComposite
    [13, 3, 5, 17, 3, 7]
    9223372036854775787 q (by decide +kernel) (by omega) (by simp; omega) (by omega)

/-- No prime that is 3 modulo 4 lies above the table's prime for `2^64 - 2` and `2^64 - 1`. -/
theorem gap_64 {q : Nat} (h1 : 18446744073709551427 < q) (h2 : q ≤ 18446744073709551615) (h3 : q % 4 = 3) : ¬ q.Prime :=
  not_prime_of_gapComposite
    [13, 3, 7, 3183958073, 3, 1291, 5, 3, 14879, 7, 3, 5, 11, 3, 127, 315781601, 3, 363269, 119026343,
      3, 2617, 5, 3, 7, 17099, 3, 5, 61, 3, 17, 7, 3, 41, 29, 3, 11071, 5, 3, 827, 13, 3, 5, 19, 3, 7, 11,
      3]
    18446744073709551431 q (by decide +kernel) (by omega) (by simp; omega) (by omega)

end Sys2Proof.Machine
end

