-- ==== Sys2Proof/Tests/Slice0.lean ====
section
/-! SUPPORT. Tests: the smoke test of the checks, the decoding of every word of the opcode map, small results whose
expected values stand in 95_test_vectors.md, and a witness for the hypotheses of each statement. -/

namespace Sys2Proof.Tests

open Sys2Proof Sys2Proof.Machine

/-! ## The checks refuse ill-formed values -/

/-- 30_encoding.md R90, with the value of program P3, line 32. -/
theorem test_high_half_refused : highHalfClear 0x10000000B#64 = false ∧ wellFormedWord 0x10000000B#64 = false := by decide

/-- 30_encoding.md R95, R98: the all-zero word and an opcode past the map. -/
theorem test_opcode_refused :
    opcodeAssigned 0x00#64 = false ∧ opcodeAssigned 0x10#64 = false ∧ wellFormedWord 0x06#64 = false := by decide

/-- 30_encoding.md R91 to R93: a reserved bit set in each format (program P3, line 36, for format N). -/
theorem test_reserved_refused :
    reservedFieldsClear 0x10B#64 = false ∧ reservedFieldsClear 0x201#64 = false ∧
    reservedFieldsClear 0x10C#64 = false ∧ wellFormedWord 0x100D#64 = false := by decide

/-- 20_memory.md R62: a narrow, a misaligned, a burst and an outside access. -/
theorem test_access_refused :
    admitted .b32 0x10 = false ∧ admitted .b64 0x14 = false ∧ admitted .burst 0x10 = false ∧
    admitted .b64 0x80 = false ∧ admitted .b64 0x78 = true := by decide

/-! ## Decoding, each word written from the fields of its format -/

/-- Format N (30_encoding.md R91): 56 zero bits and the opcode. -/
theorem test_decode_n :
    decode (0#56 ++ 0b00000010#8) = .ok .isprime ∧ decode (0#56 ++ 0b00000011#8) = .ok .ppred ∧
    decode (0#56 ++ 0b00000101#8) = .ok .modsq ∧ decode (0#56 ++ 0b00001001#8) = .ok .defaultInstance ∧
    decode (0#56 ++ 0b00001010#8) = .ok .permute ∧ decode (0#56 ++ 0b00001011#8) = .ok .eval ∧
    decode (0#56 ++ 0b00001111#8) = .ok .ack := by decide

/-- Format M (30_encoding.md R92): bit 8 is the mode flag. -/
theorem test_decode_m :
    decode 0b000000001#64 = .ok .isqrtf ∧ decode 0b100000001#64 = .ok .isqrtc ∧
    decode 0b000000100#64 = .ok .selprime ∧ decode 0b100000100#64 = .ok .selprimeNt ∧
    decode 0b000001000#64 = .ok .construct ∧ decode 0b100001000#64 = .ok .constructNt := by decide

/-- Format C (30_encoding.md R93): bits 11:10 are the cursor. -/
theorem test_decode_c :
    decode 0b000000001100#64 = .ok (.seqstart 0) ∧ decode 0b010000001100#64 = .ok (.seqstart 1) ∧
    decode 0b100000001100#64 = .ok (.seqstart 2) ∧ decode 0b110000001100#64 = .ok (.seqstart 3) ∧
    decode 0b000000001101#64 = .ok (.seqnext 0) ∧ decode 0b010000001101#64 = .ok (.seqnext 1) ∧
    decode 0b100000001101#64 = .ok (.seqnext 2) ∧ decode 0b110000001101#64 = .ok (.seqnext 3) := by decide

/-- 30_encoding.md R97: one illegal value for each way to be illegal. -/
theorem test_decode_illegal :
    decode 0x10000000B#64 = .error .highHalf ∧ decode 0x100D#64 = .error .upperField ∧
    decode 0x301#64 = .error .formatM ∧ decode 0x10B#64 = .error .formatN ∧
    decode 0x20C#64 = .error .formatC ∧ decode 0x0#64 = .error .opcode := by decide

/-- The encoder writes the words of program P1, lines 13 and 16. -/
theorem test_encode : encode (.seqstart 1) = 0x040C#64 ∧ encode (.seqnext 1) = 0x040D#64 := by decide

/-! ## Results, from 95_test_vectors.md -/

/-- The result is a next state of which `p` holds. -/
def nextHas (r : Result) (p : State → Bool) : Bool :=
  match r with
  | .next t => p t
  | .fault _ => false
  | .refused _ => false

/-- Idle after reset with the two operands written. -/
def withArgs (a b : Word) : State := { State.reset with arg0 := a, arg1 := b }

/-- Idle with an instance `(u, sd, p)` and `ARG0 = a`. -/
def withInstance (u sd p a : Word) : State := { State.reset with univ := u, seed := sd, prime := p, arg0 := a }

/-- `s` with command value `v` pending. -/
def pending (s : State) (v : Word) : State := { s with pend := v, busy := true }

/-- Section 2.1: the largest square, and the largest input. -/
theorem test_isqrtf :
    nextHas (exec .isqrtf (withArgs 18446744065119617025 0)) (fun t => t.res == 4294967295 && t.statusWord == 2) ∧
    nextHas (exec .isqrtf (withArgs 18446744073709551615 0)) (fun t => t.res == 4294967295) := by decide +kernel

/-- Section 2.1: the ceiling that needs 33 bits, and 17. -/
theorem test_isqrtc :
    nextHas (exec .isqrtc (withArgs 18446744065119617026 0)) (fun t => t.res == 4294967296) ∧
    nextHas (exec .isqrtc (withArgs 17 0)) (fun t => t.res == 5) := by decide +kernel

/-- Section 2.2: 1, 2 and the square 263^2 that only the wheel catches. -/
theorem test_isprime :
    nextHas (exec .isprime (withArgs 1 0)) (fun t => t.res == 1 && t.statusWord == 0x12) ∧
    nextHas (exec .isprime (withArgs 2 0)) (fun t => t.res == 0 && t.statusWord == 2) ∧
    nextHas (exec .isprime (withArgs 69169 0)) (fun t => t.res == 0) := by decide +kernel

/-- Section 2.3: 1, 9 and 65536. -/
theorem test_ppred :
    nextHas (exec .ppred (withArgs 1 0)) (fun t => t.res == 1) ∧
    nextHas (exec .ppred (withArgs 9 0)) (fun t => t.res == 7) ∧
    nextHas (exec .ppred (withArgs 65536 0)) (fun t => t.res == 65521) := by decide +kernel

/-- Program P2, lines 1 to 4. -/
theorem test_selprime :
    nextHas (exec .selprime (withArgs 65535 0)) (fun t => t.res == 65519 && t.statusWord == 0x22) := by decide +kernel

/-- Program P2, lines 5 to 7: TH is rewritten to 0. -/
theorem test_selprime_nt :
    nextHas (exec .selprimeNt { withArgs 65535 0 with th := true }) (fun t => t.res == 65519 && t.statusWord == 2) := by
  decide +kernel

/-- Section 2.4: a square of 65 bits, and program P4, line 29. -/
theorem test_modsq :
    nextHas (exec .modsq (withArgs 0x100000000 0xFFFFFFFFFFFFFF43)) (fun t => t.res == 189) ∧
    nextHas (exec .modsq (withArgs 0x7FFFFFFFFFFFFFA2 0xFFFFFFFFFFFFFF43)) (fun t => t.res == 0x3FFFFFFFFFFFFFD1) := by
  decide +kernel

/-- Program P1, lines 2 to 8: the raw seed 0 leaves `K`, whatever it is. -/
theorem test_construct :
    nextHas (exec .construct (withArgs 17 0)) (fun t => t.univ == 17 && t.prime == 11 && t.res == 11 && !t.th) ∧
    nextHas (exec .construct (pending (withArgs 0 7) 8)) (fun t => t.statusWord == 0x20004 && t.ecmd == 8 && t.univ == 1) := by
  decide +kernel

/-- 42_construction.md R188: no table, so TH falls; universe 0 faults (program P3, lines 1 to 8). -/
theorem test_construct_nt :
    nextHas (exec .constructNt { withArgs 65535 0 with th := true }) (fun t => t.prime == 65519 && !t.th) ∧
    nextHas (exec .constructNt (pending (withArgs 0 7) 0x108)) (fun t => t.statusWord == 0x20004) := by decide +kernel

/-- W5 and W6 of section 1.1. -/
theorem test_default :
    nextHas (exec .defaultInstance (withInstance 17 5 11 0)) (fun t => t.univ == 1 && t.seed == 0 && t.prime == 0) := by
  decide

/-- Program P4, lines 18 and 26: without and with the fold. -/
theorem test_permute :
    nextHas (exec .permute (withInstance 0xFFFFFFFFFFFFFFFF 0 0xFFFFFFFFFFFFFF43 0x100000000)) (fun t => t.res == 0xBD) ∧
    nextHas (exec .permute (withInstance 0xFFFFFFFFFFFFFFFF 0 0xFFFFFFFFFFFFFF43 0x7FFFFFFFFFFFFFA2))
      (fun t => t.res == 0xBFFFFFFFFFFFFF72) := by decide +kernel

/-- Program P5, line 25; program P3, lines 19 and 20, where the index is the universe. -/
theorem test_eval :
    nextHas (exec .eval (withInstance 10 3 7 8)) (fun t => t.res == 1) ∧
    nextHas (exec .eval (pending (withInstance 10 7 7 10) 0xB)) (fun t => t.statusWord == 0x30004 && t.ecmd == 0xB) := by
  decide +kernel

/-- Program P4, lines 39 and 40: the start may be the universe itself. -/
theorem test_seqstart :
    nextHas (exec (.seqstart 3) (withInstance 0xFFFFFFFFFFFFFFFF 0 0xFFFFFFFFFFFFFF43 0xFFFFFFFFFFFFFFFF))
      (fun t => t.statusWord == 0x802) := by decide +kernel

/-- Program P5, lines 17 to 19 and 26 to 28. -/
theorem test_seqnext :
    nextHas (exec (.seqnext 2) { withInstance 10 3 7 8 with cur := #v[2, 0, 9, 0] })
      (fun t => t.res == 4 && t.statusWord == 0x402) ∧
    nextHas (exec (.seqnext 2) (pending { withInstance 10 3 7 8 with cur := #v[3, 0, 10, 0] } 0x80D))
      (fun t => t.statusWord == 0x30404 && t.ecmd == 0x80D) := by decide +kernel

/-- Program P4, lines 32 and 33: ACK clears OVR with the fault and keeps TH. -/
theorem test_ack :
    nextHas (exec .ack { State.reset with err := true, cause := 3, ovr := true, th := true, ecmd := 0xB })
      (fun t => t.statusWord == 0x20 && t.ecmd == 0) := by decide

/-- A step fetches what is placed: PPRED is pending and completes, ACK is performed by its write. -/
theorem test_with_fetch_word :
    nextHas (step ((withArgs 16 0).withFetchWord 32 3)) (fun t => t.res == 13 && t.done) ∧
    nextHas (step ({ State.reset with err := true, cause := 3 }.withFetchWord 32 0xF)) (fun t => t.statusWord == 0) ∧
    decodeTableWord 32 0x80D = some (.seqnext 2) := by decide +kernel

/-- Program P4, lines 7 to 9: a write while busy is dropped, and the command completes on the old operand. -/
theorem test_write_while_busy :
    nextHas (runSteps 2 { pending (withArgs 16 0) 3 with schedule := [.write .b64 0x20 5, .engine] })
      (fun t => t.arg0 == 16 && t.res == 13 && t.statusWord == 0xA) := by decide +kernel

/-! ## Witnesses: the hypotheses of each statement are met together -/

/-- The instance of universe 17 satisfies the invariant of the reachable ones (program P1). -/
theorem instance_17 (sd a : Word) : (withInstance 17 sd 11 a).InstanceOk where
  univ_pos := by show 1 ≤ (17#64).toNat; decide
  prime_selected := by
    refine .inr ⟨show 3 ≤ (17#64).toNat by decide, ?_⟩
    show IsGreatest {q : Nat | q.Prime ∧ q % 4 = 3 ∧ q ≤ 17} 11
    refine ⟨⟨by norm_num, by norm_num, by norm_num⟩, ?_⟩
    rintro q ⟨hq, h4, hle⟩
    interval_cases q <;> first | omega | (norm_num at hq)

/-- A command pending on the instance of universe 17 satisfies the invariant. -/
theorem inv_pending_17 : (pending (withInstance 17 5 11 16) 0xB).Inv where
  instance_ok := ⟨(instance_17 5 16).univ_pos, (instance_17 5 16).prime_selected⟩
  cursors_ok := by show ∀ k : Fin 4, _; decide
  status_ok := ⟨by decide, by decide, by decide, by decide, by decide⟩

/-- StepRunsTheDecodedCommand: the four clauses' hypotheses. -/
theorem witness_step :
    Instr.wellFormed (.seqnext 3) = true ∧ (pending State.reset 0xC0D).busy = true ∧
    decode (pending State.reset 0xC0D).pend = .ok (.seqnext 3) ∧ Instr.seqnext 3 ≠ .ack ∧
    (pending State.reset 0xC0D).schedule = [] ∧
    { pending State.reset 0xC0D with schedule := [.engine, .reset] }.schedule = .engine :: [.reset] ∧
    State.reset.busy = false ∧
    { State.reset with schedule := [.write .b64 0x18 0xF#64] }.schedule = .write .b64 0x18 0xF#64 :: [] := by decide

/-- IssueThenComplete and the first clause of IllegalCommandsFault. -/
theorem witness_issue :
    Instr.construct ≠ .ack ∧ (withArgs 17 0).busy = false ∧ (withArgs 17 0).err = false := by decide

/-- IllegalCommandsFault: one value for each clause, at the edge of its range. -/
theorem witness_illegal :
    IllegalWord 0x10#64 ∧ 2 ^ 32 ≤ (0x100000000#64).toNat ∧
    opcodeFormats.lookup ((0x10B#64).setWidth 8) = some .n ∧ commandBits 0x10B#64 &&& Format.mustBeZero .n ≠ 0 ∧
    opcodeFormats.lookup ((0x201#64).setWidth 8) = some .m ∧ commandBits 0x201#64 &&& Format.mustBeZero .m ≠ 0 ∧
    opcodeFormats.lookup ((0x10C#64).setWidth 8) = some .c ∧ commandBits 0x10C#64 &&& Format.mustBeZero .c ≠ 0 ∧
    (0x0E#64).toNat % 256 ∈ [0x00, 0x06, 0x07, 0x0E] ∧ 0x10 ≤ (0x10#64).toNat % 256 :=
  ⟨⟨.opcode, rfl⟩, by decide, by decide, by decide, by decide, by decide, by decide, by decide, by decide, by decide⟩

/-- DecodeEncodeInverse: a command, and a value the decoder accepts. -/
theorem witness_decode : Instr.wellFormed (.seqstart 3) = true ∧ decode 0xC0C#64 = .ok (.seqstart 3) := by decide

/-- TableAgreesWithSearch: the least and the greatest entry are in the table. -/
theorem witness_table :
    (2 ^ 16 - 2, 65519) ∈ commonUniverseTable ∧ (2 ^ 64 - 1, 2 ^ 64 - 189) ∈ commonUniverseTable := by decide

/-- The construction statements and SeedMixing: ARG0 zero, and not zero with ARG1 zero. -/
theorem witness_construct : (withArgs 0 7).arg0 = 0 ∧ (withArgs 1 0).arg0 ≠ 0 ∧ (withArgs 1 0).arg1 = 0 := by decide

/-- ModsqOnTheWideSquare: both clauses. -/
theorem witness_modsq : (withArgs 5 0).arg1 = 0 ∧ (withArgs 5 1).arg1 ≠ 0 := by decide

/-- PermuteAppliesCoreMapping and EvalOnTheWideSum: the first index out of range, and the last in range. -/
theorem witness_range :
    (withInstance 17 5 11 17).univ ≤ (withInstance 17 5 11 17).arg0 ∧
    (withInstance 17 5 11 16).arg0 < (withInstance 17 5 11 16).univ := by decide

/-- PermuteIsBijection and EvalIsBijection: an instance, an index at the edge, a prime of at least 3. -/
theorem witness_bijection :
    (withInstance 17 5 11 0).InstanceOk ∧ (16#64 < (withInstance 17 5 11 0).univ) ∧
    3 ≤ (withInstance 17 5 11 0).prime.toNat ∧ (withInstance 17 5 11 0).prime ≤ 11#64 :=
  ⟨instance_17 5 0, by decide, by decide, by decide⟩

/-- DegenerateInstancesRotate: universe 2, and the reset instance of universe 1. -/
theorem witness_degenerate :
    (withInstance 2 5 0 1).prime = 0 ∧ (withInstance 2 5 0 1).arg0 < (withInstance 2 5 0 1).univ ∧
    State.reset.prime = 0 ∧ State.reset.arg0 < State.reset.univ ∧ State.reset.univ = 1 := by decide

/-- SeqstartSetsCursor and SequenceYieldsEveryIndex: the first start out of range, and the last in range. -/
theorem witness_seqstart :
    (withInstance 17 5 11 18).univ < (withInstance 17 5 11 18).arg0 ∧
    (withInstance 17 5 11 17).arg0 ≤ (withInstance 17 5 11 17).univ ∧ (0 : Fin 4) ≠ 3 := by decide

/-- SeqnextYieldsAndAdvances and SeqnextAgreesWithEval: an exhausted cursor, and one at the last index. -/
theorem witness_seqnext :
    (17#64) ≤ { withInstance 17 5 11 0 with cur := #v[0, 0, 0, 17] }.cur[3] ∧
    { withInstance 17 5 11 0 with cur := #v[0, 0, 0, 16] }.cur[3] < 17#64 ∧ (2 : Fin 4) ≠ 3 := by decide

/-- AckClearsFaultState: idle, and busy. -/
theorem witness_ack : State.reset.busy = false ∧ (pending State.reset 3).busy = true := by decide

/-- CommandPortByCase: one state and value for each case, with that write to come. -/
theorem witness_port :
    { pending State.reset 3 with schedule := [.write .b64 0x18 0xF] }.schedule = .write .b64 0x18 0xF :: [] ∧
    (pending State.reset 3).busy = true ∧ State.reset.busy = false ∧ (0xE#64) ≠ 0xF#64 ∧ State.reset.err = false ∧
    { State.reset with err := true, cause := 1 }.err = true ∧
    { State.reset with err := true, cause := 1 }.busy = false := by decide

/-- ResetFromEveryState: reset ends a pending command, and so does its completion. -/
theorem witness_reset :
    (pending State.reset 3).busy = true ∧
    step { pending State.reset 3 with schedule := [.reset] } = .next State.reset ∧ State.reset.busy = false ∧
    nextHas (step (pending State.reset 3)) (fun t => !t.busy) := by
  exact ⟨by decide, rfl, by decide, by decide +kernel⟩

/-- StatusLayout and the second clause of ReadOnlyWritesIgnored. -/
theorem witness_status :
    State.reset.StatusOk ∧ State.reset.err = false ∧
    HostTurn (State.nextTurn { State.reset with schedule := [.write .b64 0x78 7] }) ∧
    step { State.reset with schedule := [.write .b64 0x78 7] } = .next { State.reset with resp := .ok } :=
  ⟨⟨by decide, by decide, by decide, by decide, by decide⟩, by decide, by simp [State.nextTurn, HostTurn, Config.windowBytes], rfl⟩

/-- ReadsReturnLocations, OperandWritesAndDrops, ReadOnlyWritesIgnored: offsets at both ends, and both states. -/
theorem witness_offsets :
    ((0x78 : Nat), State.reset.cur[3]) ∈ [((0x00 : Nat), idValue), (0x78, State.reset.cur[3])] ∧
    State.reset.busy = false ∧ ((pending State.reset 3).busy = true ∧ (0x28 : Nat) ∈ [0x18, 0x20, 0x28]) ∧
    ({ State.reset with err := true }.busy = false ∧ { State.reset with err := true }.err = true ∧ (0#64) ≠ 0xF#64) ∧
    (0x78 : Nat) ∈ [0x00, 0x10, 0x30, 0x38, 0x40, 0x48, 0x50, 0x58, 0x60, 0x68, 0x70, 0x78] := by decide

/-- RefusedAccessesChangeNothing: narrow at the last location, misaligned at the last byte, the first byte outside. -/
theorem witness_refused :
    ((0x78 : Nat) < 128 ∧ AccessSize.b32 ≠ .b64) ∧ ((127 : Nat) < 128 ∧ 127 % 8 ≠ 0) ∧ (128 : Nat) ≤ 128 := by decide

/-- WindowIsLittleEndian: the last byte of the window. -/
theorem witness_lanes : (0x78 : Nat) < 128 ∧ 0x78 % 8 = 0 ∧ (7 : Nat) < 8 := by decide

/-- InterruptLine: ACK answers on an idle block, a reset turn answers, an issue answers. -/
theorem witness_irq :
    ({ State.reset with done := true, ieDone := true }.err = false ∧ (0xE#64) ≠ 0xF#64 ∧
      step { State.reset with done := true, ieDone := true, schedule := [.write .b64 0x18 0xE] } =
        .next { pending State.reset 0xE with ieDone := true, resp := .ok }) ∧
    { State.reset with done := true, ieDone := true }.busy = false ∧
    exec .ack { State.reset with done := true, ieDone := true } = .next { State.reset with ieDone := true } ∧
    step { State.reset with done := true, ieDone := true, schedule := [.reset] } = .next State.reset :=
  ⟨⟨rfl, by decide, rfl⟩, rfl, rfl, rfl⟩

/-- FaultTable: a command with each cause at the edge of its range, one without, and an illegal pending word. -/
theorem witness_fault :
    Instr.construct ≠ .ack ∧ expectedFault .construct (withArgs 0 0) = some 2 ∧
    expectedFault .eval (withInstance 17 5 11 17) = some 3 ∧ expectedFault (.seqstart 0) (withInstance 17 5 11 18) = some 3 ∧
    expectedFault .modsq (withArgs 3 0) = some 4 ∧ expectedFault (.seqstart 0) (withInstance 17 5 11 17) = none ∧
    (pending State.reset 0).busy = true ∧ IllegalWord (pending State.reset 0).pend :=
  ⟨by decide, by decide, by decide, by decide, by decide, by decide, by decide, .opcode, rfl⟩

/-- FaultsArePrecise: MODSQ by 0 raises ERR. -/
theorem witness_precise :
    (pending (withArgs 3 0) 5).nextTurn = .engine ∧ (pending (withArgs 3 0) 5).busy = true ∧
    (pending (withArgs 3 0) 5).err = false ∧
    step (pending (withArgs 3 0) 5) = .next (faultEntry (pending (withArgs 3 0) 5) 4) ∧
    (faultEntry (pending (withArgs 3 0) 5) 4).err = true :=
  ⟨by decide, by decide, by decide, rfl, by decide⟩

/-- The fault state with one write to CMD to come that is not ACK. -/
def faulted : State := { State.reset with err := true, cause := 3, schedule := [.write .b64 0x18 2] }

/-- FaultStateIsQuiescent, and OverrunIsSticky where OVR rises. -/
theorem witness_faulted :
    faulted.err = true ∧ faulted.busy = false ∧
    step faulted = .next { faulted with ovr := true, schedule := [], resp := .ok } ∧ faulted.nextTurn ≠ .reset ∧
    faulted.nextTurn ≠ .write .b64 0x18 0xF#64 ∧ faulted.ovr = false :=
  ⟨by decide, by decide, rfl, by decide, by decide, by decide⟩

/-- OverrunIsSticky where OVR falls. -/
theorem witness_overrun_falls :
    step { State.reset with ovr := true, schedule := [.write .b64 0x18 0xF#64] } = .next { State.reset with resp := .ok } ∧
    State.reset.ovr = false :=
  ⟨rfl, rfl⟩

/-- InstanceAndCursorWriters and ResultAndFlagWriters: each premise is met by a step that changes the register. -/
theorem witness_writers :
    (pending State.reset 8).nextTurn ≠ .reset ∧
    nextHas (step (pending (withArgs 17 0) 8))
      (fun t => t.univ != (withArgs 17 0).univ && t.prime != (withArgs 17 0).prime && t.res != (withArgs 17 0).res) ∧
    nextHas (step (pending (withInstance 17 5 11 17) 0xC0C)) (fun t => t.cur[3] != (withInstance 17 5 11 17).cur[3]) ∧
    nextHas (step (pending (withArgs 17 0) 2)) (fun t => t.pf != (withArgs 17 0).pf) ∧
    nextHas (step (pending (withArgs 65535 0) 4)) (fun t => t.th != (withArgs 65535 0).th) := by decide +kernel

/-- OperandsWrittenByHostOnly: writes that change ARG0 and ARG1. -/
theorem witness_operands :
    step { State.reset with schedule := [.write .b64 0x20 7] } = .next { State.reset with arg0 := 7, resp := .ok } ∧
    step { State.reset with schedule := [.write .b64 0x28 7] } = .next { State.reset with arg1 := 7, resp := .ok } ∧
    State.nextTurn { State.reset with schedule := [.write .b64 0x20 7] } ≠ .reset ∧ (7#64) ≠ State.reset.arg0 :=
  ⟨rfl, rfl, by decide, by decide⟩

/-- ResultsDependOnListedOperands: two different states that agree on what SEQNEXT 3 reads. -/
theorem witness_depend :
    Instr.seqnext 3 ≠ .ack ∧
    (∀ o ∈ reads (.seqnext 3), o.word (withInstance 17 5 11 0) = o.word (withInstance 17 5 11 16)) ∧
    withInstance 17 5 11 0 ≠ withInstance 17 5 11 16 ∧
    nextHas (exec (.seqnext 3) (withInstance 17 5 11 0)) (fun t => t.done) := by decide +kernel

/-- PendingCommandIsFrozen: a dropped write while a command stays pending. -/
theorem witness_frozen :
    (pending State.reset 3).busy = true ∧
    step { pending State.reset 3 with schedule := [.write .b64 0x20 7] } =
      .next { pending State.reset 3 with ovr := true, resp := .ok } :=
  ⟨by decide, rfl⟩

/-- HostCannotDisturbPending: a dropped write at the first offset and a refused read at the last byte. -/
theorem witness_disturb :
    (pending State.reset 3).busy = true ∧ decode (pending State.reset 3).pend = .ok .ppred ∧ Instr.ppred ≠ .ack ∧
    ∀ t ∈ [Turn.write .b64 0 7, Turn.read .b8 127], HostTurn t := by
  refine ⟨by decide, by decide, by decide, ?_⟩
  intro t ht
  rcases List.mem_pair.1 ht with rfl | rfl <;> simp [HostTurn, Config.windowBytes]

/-- IdlePendIsNeverRead and ControlHasNoEffect: an issue, which leaves the block busy and reads no CTRL. -/
theorem witness_idle :
    State.reset.busy = false ∧
    step { State.reset with schedule := [.write .b64 0x18 3] } = .next { pending State.reset 3 with resp := .ok } ∧
    (pending State.reset 3).busy = true ∧
    State.nextTurn { State.reset with schedule := [.write .b64 0x18 3] } ≠ .read .b64 0x08 :=
  ⟨by decide, rfl, by decide, by decide⟩

/-- PendingCommandCompletes: with nothing scheduled and with turns to come, on an illegal pending word. -/
theorem witness_pending :
    (pending State.reset 0).busy = true ∧ (pending State.reset 0).nextTurn = .engine ∧
    State.nextTurn { pending State.reset 0 with schedule := [.engine, .reset] } = .engine ∧
    IllegalWord (pending State.reset 0).pend :=
  ⟨by decide, by decide, by decide, .opcode, rfl⟩

/-- StepKeepsInvariant: a state with the invariant, the last index of universe 17 to be evaluated, steps on. -/
theorem witness_invariant :
    (pending (withInstance 17 5 11 16) 0xB).Inv ∧
    ∃ t, step (pending (withInstance 17 5 11 16) 0xB) = .next t ∧ t.done = true :=
  ⟨inv_pending_17, _, rfl, rfl⟩

end Sys2Proof.Tests
end

/-! # The state family (10_state.md): the reset state and the STATUS register -/

namespace Sys2Proof.Machine

/-! ## Reading a flag or a field out of a concatenation -/

theorem bit_getLsbD_zero (b : Bool) : (bit b).getLsbD 0 = b := by cases b <;> rfl

theorem getLsbD_append_bit_zero {w : Nat} (x : BitVec w) (b : Bool) : (x ++ bit b).getLsbD 0 = b := by
  rw [BitVec.getLsbD_append, if_pos Nat.one_pos, bit_getLsbD_zero]

theorem getLsbD_append_bit_succ {w : Nat} (x : BitVec w) (b : Bool) (n : Nat) :
    (x ++ bit b).getLsbD (n + 1) = x.getLsbD n := by
  simp [BitVec.getLsbD_append]

theorem extractLsb'_append_bit_succ {w : Nat} (x : BitVec w) (b : Bool) (i len : Nat) :
    (x ++ bit b).extractLsb' (i + 1) len = x.extractLsb' i len :=
  BitVec.extractLsb'_append_eq_of_le (Nat.le_add_left 1 i)

/-! ## STATUS as read (10_state.md R26), one lemma per field -/

variable (s : State)

theorem State.statusWord_busy : s.statusWord.getLsbD 0 = s.busy := by
  simp only [State.statusWord, getLsbD_append_bit_zero]

theorem State.statusWord_done : s.statusWord.getLsbD 1 = s.done := by
  simp only [State.statusWord, getLsbD_append_bit_succ, getLsbD_append_bit_zero]

theorem State.statusWord_err : s.statusWord.getLsbD 2 = s.err := by
  simp only [State.statusWord, getLsbD_append_bit_succ, getLsbD_append_bit_zero]

theorem State.statusWord_ovr : s.statusWord.getLsbD 3 = s.ovr := by
  simp only [State.statusWord, getLsbD_append_bit_succ, getLsbD_append_bit_zero]

theorem State.statusWord_pf : s.statusWord.getLsbD 4 = s.pf := by
  simp only [State.statusWord, getLsbD_append_bit_succ, getLsbD_append_bit_zero]

theorem State.statusWord_th : s.statusWord.getLsbD 5 = s.th := by
  simp only [State.statusWord, getLsbD_append_bit_succ, getLsbD_append_bit_zero]

/-- Above the six flags STATUS holds the wide fields. -/
theorem State.statusWord_above_flags (i len : Nat) :
    s.statusWord.extractLsb' (i + 6) len =
      (0#44 ++ s.cause ++ 0#4 ++ s.exhaustedBits ++ 0#2).extractLsb' i len := by
  simp only [State.statusWord, extractLsb'_append_bit_succ]

theorem State.statusWord_zero_7_6 : s.statusWord.extractLsb' 6 2 = 0 :=
  (s.statusWord_above_flags 0 2).trans BitVec.extractLsb'_append_eq_right

/-- Above `EXH` STATUS holds `CAUSE` between zeros. -/
theorem State.statusWord_above_exh (i len : Nat) :
    s.statusWord.extractLsb' (i + 12) len = (0#44 ++ s.cause ++ 0#4).extractLsb' i len := by
  rw [s.statusWord_above_flags (i + 6), BitVec.extractLsb'_append_eq_of_le (by omega),
    BitVec.extractLsb'_append_eq_of_le (by omega)]
  rfl

theorem State.statusWord_exh : s.statusWord.extractLsb' 8 4 = s.exhaustedBits := by
  rw [s.statusWord_above_flags 2, BitVec.extractLsb'_append_eq_of_le (by omega)]
  exact BitVec.extractLsb'_append_eq_right

theorem State.statusWord_zero_15_12 : s.statusWord.extractLsb' 12 4 = 0 :=
  (s.statusWord_above_exh 0 4).trans BitVec.extractLsb'_append_eq_right

theorem State.statusWord_cause : s.statusWord.extractLsb' 16 4 = s.cause := by
  rw [s.statusWord_above_exh 4, BitVec.extractLsb'_append_eq_of_le (by omega)]
  exact BitVec.extractLsb'_append_eq_right

theorem State.statusWord_zero_63_20 : s.statusWord.extractLsb' 20 44 = 0 := by
  rw [s.statusWord_above_exh 8, BitVec.extractLsb'_append_eq_of_le (by omega),
    BitVec.extractLsb'_append_eq_of_le (by omega)]
  exact BitVec.extractLsb'_eq_self

theorem State.exhaustedBits_getLsbD (k : Fin Config.numCursors) :
    s.exhaustedBits.getLsbD k = s.exhausted k := by
  have bits : s.exhaustedBits.getLsbD 0 = s.exhausted 0 ∧ s.exhaustedBits.getLsbD 1 = s.exhausted 1 ∧
      s.exhaustedBits.getLsbD 2 = s.exhausted 2 ∧ s.exhaustedBits.getLsbD 3 = s.exhausted 3 := by
    simp only [State.exhaustedBits, getLsbD_append_bit_succ, getLsbD_append_bit_zero, bit_getLsbD_zero, and_self]
  obtain ⟨h0, h1, h2, h3⟩ := bits
  match k with
  | 0 => exact h0
  | 1 => exact h1
  | 2 => exact h2
  | 3 => exact h3

theorem State.exhausted_iff (k : Fin Config.numCursors) : s.exhausted k = true ↔ s.cur[k] = s.univ :=
  beq_iff_eq

/-- STATUS shows bit `k` of `EXH` at bit `8 + k`. -/
theorem State.statusWord_exh_bit (k : Fin Config.numCursors) :
    s.statusWord.getLsbD (8 + k) = s.exhausted k := by
  have hk : (k : Nat) < 4 := k.isLt
  rw [← s.exhaustedBits_getLsbD k, ← s.statusWord_exh, BitVec.getLsbD_extractLsb', decide_eq_true hk,
    Bool.true_and]

/-! ## A scheduled write to a location of the window -/

theorem step_schedule_cons (t : Turn) (rest : List Turn) :
    step { s with schedule := t :: rest } = takeTurn t (s.setSchedule rest) := rfl

theorem hostWrite_admitted {size : AccessSize} {off : Nat} (h : admitted size off = true) (v : Word) :
    hostWrite s size off v = answered (regWrite s (locationAt off) v) := by
  rcases hostWrite_cases s size off v with ⟨hw, -⟩ | ⟨-, ha, -⟩ | ⟨-, he⟩
  · simp [admitted, hw] at h
  · simp [ha] at h
  · exact he

@[simp] theorem regWrite_status (v : Word) : regWrite s .status v = .next s := rfl

/-- A host write to STATUS is answered and changes nothing (20_memory.md R65). -/
theorem step_write_status (v : Word) (rest : List Turn) :
    step { s with schedule := .write .b64 0x10 v :: rest } = .next ((s.setSchedule rest).setResp .ok) := by
  have hadm : admitted .b64 0x10 = true := by decide
  have hloc : locationAt 0x10 = .status := by decide
  rw [step_schedule_cons, takeTurn_write, hostWrite_admitted _ hadm, hloc, regWrite_status, answered_next]

/-! ## The reset state (10_state.md R50) -/

theorem State.reset_cur (k : Fin Config.numCursors) : State.reset.cur[k] = 0 :=
  Vector.getElem_replicate k.isLt

/-- After reset no sequence is exhausted: every cursor is 0 and UNIVERSE is 1. -/
theorem State.reset_exhausted (k : Fin Config.numCursors) : State.reset.exhausted k = false := by
  rw [State.exhausted, State.reset_cur]
  rfl

end Sys2Proof.Machine

section
open Sys2Proof.Machine

/-- Settles O41: each field of STATUS by its lemma, and the ignored write by the step that takes it. -/
theorem statusLayout : Obligations.StatusLayout := by
  refine ⟨fun s => ⟨s.statusWord_busy, s.statusWord_done, s.statusWord_err, s.statusWord_ovr, s.statusWord_pf,
    s.statusWord_th, s.statusWord_zero_7_6, fun k => ?exh, s.statusWord_zero_15_12, s.statusWord_cause,
    s.statusWord_zero_63_20, fun hok herr => ?cause⟩, fun s v rest => step_write_status s v rest⟩
  case exh => rw [s.statusWord_exh_bit k, s.exhausted_iff k]
  case cause => rw [s.statusWord_cause, (hok.no_err_clear herr).1]

/-- Settles O1: the fields by the definition of the reset state, the cursors and `EXH` for every index by their lemmas. -/
theorem resetStateAsListed : Obligations.ResetStateAsListed := by
  refine ⟨rfl, rfl, rfl, rfl, rfl, rfl, State.reset_cur, rfl, rfl, rfl, rfl, rfl, rfl, rfl, rfl, rfl, rfl,
    State.reset_exhausted, ?status, rfl, rfl⟩
  case status => decide

end

/-! # The memory family (20_memory.md): reads and writes of the register window -/

namespace Sys2Proof.Machine

variable {s : State} {rest : List Turn} {off : Nat}

/-! ## The next scheduled access, when it is admitted (20_memory.md R62) -/

theorem step_of_schedule_eq {ts : List Turn} (h : s.schedule = ts) : step s = step { s with schedule := ts } := by
  rw [← h]

theorem hostRead_admitted (s : State) {size : AccessSize} (h : admitted size off = true) :
    hostRead s size off = .next (s.setResp (.data (regValue s (locationAt off)))) := by
  rcases hostRead_cases s size off with ⟨hout, -⟩ | ⟨-, hrefused, -⟩ | ⟨-, he⟩
  · simp [admitted, hout] at h
  · simp [hrefused] at h
  · exact he

/-- The turns to come are at no location of the window. -/
theorem regValue_setSchedule (s : State) (ts : List Turn) (l : Loc) : regValue (s.setSchedule ts) l = regValue s l := by
  cases l <;> rfl

theorem step_read (s : State) (rest : List Turn) (hadm : admitted .b64 off = true) :
    step { s with schedule := .read .b64 off :: rest } =
      .next ((s.setSchedule rest).setResp (.data (regValue s (locationAt off)))) := by
  rw [step_schedule_cons, takeTurn_read, hostRead_admitted _ hadm, regValue_setSchedule]

/-- A write which the location takes as the state `w` answers `w` with the normal response. -/
theorem step_write {v : Word} {w : State} (hadm : admitted .b64 off = true)
    (hw : regWrite (s.setSchedule rest) (locationAt off) v = .next w) :
    step { s with schedule := .write .b64 off v :: rest } = .next (w.setResp .ok) := by
  rw [step_schedule_cons, takeTurn_write, hostWrite_admitted _ hadm, hw, answered_next]

/-! ## Reads (20_memory.md R61, R63) -/

/-- The sixteen offsets and the values read there, from the map of 20_memory.md R61. -/
def windowMap (s : State) : List (Nat × Word) := locations.zipIdx.map fun p => (8 * p.2, regValue s p.1)

/-- An offset of the map is admitted and selects the location whose value stands beside it. -/
theorem mem_windowMap {v : Word} (h : (off, v) ∈ windowMap s) :
    admitted .b64 off = true ∧ regValue s (locationAt off) = v := by
  obtain ⟨⟨l, i⟩, hmem, heq⟩ := List.mem_map.1 h
  obtain ⟨rfl, rfl⟩ := Prod.mk.inj heq
  have hl : locations[i]? = some l := List.mem_zipIdx_iff_getElem?.1 hmem
  have hi : i < 16 := (List.getElem?_eq_some_iff.1 hl).1
  have hdiv : 8 * i / 8 = i := by omega
  constructor
  · simp [admitted, inWindow, Config.windowBytes, show 8 * i < 128 by omega]
  · simp [locationAt, hdiv, hl]

/-! ## Writes to a location (20_memory.md R64 to R68) -/

variable {v : Word}

theorem writeCommand_busy (hb : s.busy = true) : writeCommand s v = .next s.dropWrite := by
  simp [writeCommand, hb]

theorem writeCommand_ack (hb : s.busy = false) : writeCommand s ackWord = .next s.acknowledge := by
  simp [writeCommand, hb, exec, execAck]

theorem writeCommand_err (hb : s.busy = false) (hv : v ≠ ackWord) (he : s.err = true) :
    writeCommand s v = .next s.dropWrite := by
  simp [writeCommand, hb, hv, he]

theorem writeCommand_issue (hb : s.busy = false) (hv : v ≠ ackWord) (he : s.err = false) :
    writeCommand s v = .next (s.issue v) := by
  simp [writeCommand, hb, hv, he]

theorem writeOperand_idle {w : State} (hb : s.busy = false) : writeOperand s w = .next w := by
  simp [writeOperand, hb]

theorem writeOperand_busy {w : State} (hb : s.busy = true) : writeOperand s w = .next s.dropWrite := by
  simp [writeOperand, hb]

/-- The locations whose writes are dropped while BUSY = 1 (20_memory.md R66). -/
def Loc.droppedBusy (l : Loc) : Bool := l == .cmd || l == .arg0 || l == .arg1

/-- The locations whose writes are always ignored (20_memory.md R65). -/
def Loc.readOnly (l : Loc) : Bool := !(l == .ctrl || l.droppedBusy)

theorem regWrite_busy {l : Loc} (hl : l.droppedBusy = true) (hb : s.busy = true) :
    regWrite s l v = .next s.dropWrite := by
  rcases regWrite_cases s l v with ⟨rfl, -⟩ | ⟨-, h⟩ | ⟨-, h⟩ | ⟨-, h⟩ | ⟨-, hcmd, harg0, harg1, -⟩
  · cases hl
  · rw [h, writeCommand_busy hb]
  · rw [h, writeOperand_busy hb]
  · rw [h, writeOperand_busy hb]
  · simp [Loc.droppedBusy, hcmd, harg0, harg1] at hl

theorem regWrite_readOnly {l : Loc} (hl : l.readOnly = true) : regWrite s l v = .next s := by
  rcases regWrite_cases s l v with ⟨rfl, -⟩ | ⟨rfl, -⟩ | ⟨rfl, -⟩ | ⟨rfl, -⟩ | ⟨-, -, -, -, h⟩
  · cases hl
  · cases hl
  · cases hl
  · cases hl
  · exact h

/-- The offsets of the read-only and reserved locations in the map of 20_memory.md R61. -/
theorem readOnly_offsets : ∀ off ∈ [0x00, 0x10, 0x30, 0x38, 0x40, 0x48, 0x50, 0x58, 0x60, 0x68, 0x70, 0x78],
    admitted .b64 off = true ∧ (locationAt off).readOnly = true := by decide

/-- The offsets of CMD, ARG0 and ARG1 in the map of 20_memory.md R61. -/
theorem droppedBusy_offsets : ∀ off ∈ [0x18, 0x20, 0x28],
    admitted .b64 off = true ∧ (locationAt off).droppedBusy = true := by decide

/-! ## A scheduled write that is ignored, dropped or taken by CMD (20_memory.md R65 to R67) -/

theorem step_write_readOnly (s : State) (v : Word) (rest : List Turn)
    (hoff : off ∈ [0x00, 0x10, 0x30, 0x38, 0x40, 0x48, 0x50, 0x58, 0x60, 0x68, 0x70, 0x78]) :
    step { s with schedule := .write .b64 off v :: rest } = .next ((s.setSchedule rest).setResp .ok) := by
  obtain ⟨hadm, hloc⟩ := readOnly_offsets off hoff
  exact step_write hadm (regWrite_readOnly hloc)

theorem step_write_busy (v : Word) (rest : List Turn) (hoff : off ∈ [0x18, 0x20, 0x28]) (hb : s.busy = true) :
    step { s with schedule := .write .b64 off v :: rest } =
      .next ((s.setSchedule rest).dropWrite.setResp .ok) := by
  obtain ⟨hadm, hloc⟩ := droppedBusy_offsets off hoff
  exact step_write hadm (regWrite_busy hloc hb)

/-- The command port of 20_memory.md R67 is at offset 0x18. -/
theorem step_write_cmd {w : State} (hw : writeCommand (s.setSchedule rest) v = .next w) :
    step { s with schedule := .write .b64 0x18 v :: rest } = .next (w.setResp .ok) :=
  step_write rfl hw

theorem step_write_cmd_err (rest : List Turn) (hb : s.busy = false) (hv : v ≠ ackWord) (he : s.err = true) :
    step { s with schedule := .write .b64 0x18 v :: rest } = .next ((s.setSchedule rest).dropWrite.setResp .ok) :=
  step_write_cmd (writeCommand_err hb hv he)

theorem step_write_arg0_idle (v : Word) (rest : List Turn) (hb : s.busy = false) :
    step { s with schedule := .write .b64 0x20 v :: rest } =
      .next (((s.setSchedule rest).setArg0 v).setResp .ok) :=
  step_write rfl (writeOperand_idle (s := s.setSchedule rest) hb)

theorem step_write_arg1_idle (v : Word) (rest : List Turn) (hb : s.busy = false) :
    step { s with schedule := .write .b64 0x28 v :: rest } =
      .next (((s.setSchedule rest).setArg1 v).setResp .ok) :=
  step_write rfl (writeOperand_idle (s := s.setSchedule rest) hb)

theorem step_write_ctrl (s : State) (v : Word) (rest : List Turn) :
    step { s with schedule := .write .b64 0x08 v :: rest } =
      .next (((s.setSchedule rest).setCtrl v).setResp .ok) :=
  step_write rfl rfl

/-! ## What no host access writes: RES, UNIVERSE, SEED, PRIME, the cursors, PF and TH (20_memory.md R65) -/

/-- The registers which only the engine's completions and reset write (10_state.md R21, R23 to R25). -/
def State.engineOwned (s : State) : Word × Word × Word × Word × Vector Word Config.numCursors × Bool × Bool :=
  (s.res, s.univ, s.seed, s.prime, s.cur, s.pf, s.th)

theorem State.engineOwned_eq_iff {t : State} : t.engineOwned = s.engineOwned ↔
    t.res = s.res ∧ t.univ = s.univ ∧ t.seed = s.seed ∧ t.prime = s.prime ∧ t.cur = s.cur ∧ t.pf = s.pf ∧
      t.th = s.th := by
  simp only [State.engineOwned, Prod.mk.injEq]

@[simp] theorem State.setSchedule_engineOwned (s : State) (ts : List Turn) :
    (s.setSchedule ts).engineOwned = s.engineOwned := rfl

theorem writeCommand_engineOwned (s : State) (v : Word) :
    ∃ w, writeCommand s v = .next w ∧ w.engineOwned = s.engineOwned := by
  rcases writeCommand_cases s v with ⟨-, h⟩ | ⟨-, -, h⟩ | ⟨-, -, -, h⟩ | ⟨-, -, -, h⟩ <;> exact ⟨_, h, rfl⟩

theorem writeOperand_engineOwned {w : State} (hw : w.engineOwned = s.engineOwned) :
    ∃ t, writeOperand s w = .next t ∧ t.engineOwned = s.engineOwned := by
  rcases writeOperand_cases s w with ⟨-, h⟩ | ⟨-, h⟩
  · exact ⟨_, h, hw⟩
  · exact ⟨_, h, rfl⟩

/-- Every admitted write answers a next state and leaves the engine's registers. -/
theorem regWrite_engineOwned (s : State) (l : Loc) (v : Word) :
    ∃ w, regWrite s l v = .next w ∧ w.engineOwned = s.engineOwned := by
  rcases regWrite_cases s l v with ⟨-, h⟩ | ⟨-, h⟩ | ⟨-, h⟩ | ⟨-, h⟩ | ⟨-, -, -, -, h⟩
  · exact ⟨_, h, rfl⟩
  · exact h ▸ writeCommand_engineOwned s v
  · exact h ▸ writeOperand_engineOwned rfl
  · exact h ▸ writeOperand_engineOwned rfl
  · exact ⟨_, h, rfl⟩

theorem hostRead_engineOwned {size : AccessSize} {t : State} (h : hostRead s size off = .next t) :
    t.engineOwned = s.engineOwned := by
  rcases hostRead_cases s size off with ⟨-, he⟩ | ⟨-, -, he⟩ | ⟨-, he⟩ <;> cases he.symm.trans h <;> rfl

theorem hostWrite_engineOwned {size : AccessSize} {t : State} (h : hostWrite s size off v = .next t) :
    t.engineOwned = s.engineOwned := by
  rcases hostWrite_cases s size off v with ⟨-, he⟩ | ⟨-, -, he⟩ | ⟨-, he⟩
  · cases he.symm.trans h
  · cases he.symm.trans h
    rfl
  · obtain ⟨w, hw, howned⟩ := regWrite_engineOwned s (locationAt off) v
    rw [hw, answered_next] at he
    cases he.symm.trans h
    exact howned

theorem takeTurn_host_engineOwned {turn : Turn} {t : State} (hturn : HostTurn turn) (h : takeTurn turn s = .next t) :
    t.engineOwned = s.engineOwned := by
  cases turn with
  | read size off => exact hostRead_engineOwned h
  | write size off v => exact hostWrite_engineOwned h
  | engine => exact hturn.elim
  | reset => exact hturn.elim

/-- A step of the host leaves the engine's registers, whatever the access. -/
theorem step_host_engineOwned {t : State} (hturn : HostTurn s.nextTurn) (h : step s = .next t) :
    t.engineOwned = s.engineOwned := by
  rcases step_cases s with ⟨hs, -⟩ | ⟨turn, rest, hs, he⟩
  · simp [State.nextTurn, hs, HostTurn] at hturn
  · have hnext : s.nextTurn = turn := by simp [State.nextTurn, hs]
    have howned := takeTurn_host_engineOwned (hnext ▸ hturn) (he.symm.trans h)
    exact howned.trans (s.setSchedule_engineOwned rest)

end Sys2Proof.Machine

section
open Sys2Proof.Machine

/-- Settles O37: the write to a read-only location by the step that takes it, and the host's frame by the registers which
a step of the host leaves. -/
theorem readOnlyWritesIgnored : Obligations.ReadOnlyWritesIgnored := by
  refine ⟨fun s v rest off hoff => ?ignored, fun s t hturn hstep => ?frame⟩
  case ignored => exact step_write_readOnly s v rest hoff
  case frame =>
    obtain ⟨-, huniv, hseed, hprime, hcur, -, -⟩ := State.engineOwned_eq_iff.1 (step_host_engineOwned hturn hstep)
    exact ⟨huniv, hseed, hprime, hcur⟩

/-- Settles O34: each case of the command port by the lemma on the write to CMD in that case. -/
theorem commandPortByCase : Obligations.CommandPortByCase := by
  intro s v rest hs
  rw [step_of_schedule_eq hs]
  refine ⟨fun hb => ?busy, fun hb hv => ?ack, fun hb hv he => ?err, fun hb hv he => ?issue⟩
  case busy => exact step_write_busy v rest (by decide) hb
  case ack =>
    subst hv
    exact step_write_cmd (writeCommand_ack (s := s.setSchedule rest) hb)
  case err => exact step_write_cmd_err rest hb hv he
  case issue => exact step_write_cmd (writeCommand_issue (s := s.setSchedule rest) hb hv he)

/-- Settles O35: the sixteen listed pairs are the window's map, and an admitted read answers its location's value. -/
theorem readsReturnLocations : Obligations.ReadsReturnLocations := by
  intro s rest off v hmem
  have hmap : (off, v) ∈ windowMap s := hmem
  obtain ⟨hadm, rfl⟩ := mem_windowMap hmap
  exact step_read s rest hadm

/-- Settles O36: stored while idle, by the operand's own write; dropped while busy by the location, and on CMD in the
fault state by the command port. -/
theorem operandWritesAndDrops : Obligations.OperandWritesAndDrops := by
  intro s v rest
  refine ⟨fun hb => ⟨step_write_arg0_idle v rest hb, step_write_arg1_idle v rest hb⟩, fun off hdrop => ?dropped⟩
  case dropped =>
    obtain ⟨hb, hoff⟩ | ⟨hb, he, rfl, hv⟩ := hdrop
    · exact step_write_busy v rest hoff hb
    · exact step_write_cmd_err rest hb hv he

/-- Settles O38: the write to CTRL is taken in every state. -/
theorem controlWrites : Obligations.ControlWrites := step_write_ctrl

end

/-! # The encoding family (30_encoding.md): the legal command words, and the fault of every other value -/

namespace Sys2Proof

/-! ## Fields and formatted values as numbers (30_encoding.md R90 to R93) -/

theorem field_eq_div_mod (v : Word) (hi lo : Nat) : field v hi lo = v.toNat / 2 ^ lo % 2 ^ (hi - lo + 1) := by
  simp [field, BitVec.extractLsb'_toNat, Nat.shiftRight_eq_div_pow]

theorem toNat_append_eq_add {m n : Nat} (x : BitVec m) (y : BitVec n) :
    (x ++ y).toNat = x.toNat * 2 ^ n + y.toNat := by
  rw [BitVec.toNat_append, ← Nat.shiftLeft_add_eq_or_of_lt y.isLt, Nat.shiftLeft_eq]

theorem toNat_encodeN (op : BitVec 8) : (encodeN op).toNat = op.toNat := by
  simp only [encodeN, toNat_append_eq_add, BitVec.toNat_ofNat]
  omega

theorem toNat_encodeM (op : BitVec 8) (m : BitVec 1) : (encodeM op m).toNat = m.toNat * 2 ^ 8 + op.toNat := by
  simp only [encodeM, toNat_append_eq_add, BitVec.toNat_ofNat]
  omega

theorem toNat_encodeC (op : BitVec 8) (k : Fin Config.numCursors) :
    (encodeC op k).toNat = k.val * 2 ^ 10 + op.toNat := by
  have hk : k.val % 4 = k.val := Nat.mod_eq_of_lt k.isLt
  simp only [encodeC, toNat_append_eq_add, BitVec.toNat_ofNat]
  omega

/-! ## What the decoder reads from a value with bits 63:12 zero, one lemma per format -/

variable {v : Word} {op : BitVec 8} {i : Instr}

theorem lt_of_upper_fields_zero (hhigh : field v 63 32 = 0) (hupper : field v 31 12 = 0) : v.toNat < 2 ^ 12 := by
  have hv := v.isLt
  simp only [field_eq_div_mod] at hhigh hupper
  omega

theorem eq_encode_of_decodeN {j : Instr} (hv : v.toNat < 2 ^ 12) (hop : field v 7 0 = op.toNat)
    (h : decodeN v j = .ok i) (hj : encode j = encodeN op) : v = encode i := by
  unfold decodeN at h
  split at h
  case isTrue => cases h
  case isFalse hzero =>
    cases h
    simp only [field_eq_div_mod] at hzero hop
    rw [hj]
    apply BitVec.eq_of_toNat_eq
    rw [toNat_encodeN]
    omega

theorem eq_encode_of_decodeM {floor other : Instr} (hv : v.toNat < 2 ^ 12) (hop : field v 7 0 = op.toNat)
    (h : decodeM v floor other = .ok i) (hfloor : encode floor = encodeM op 0#1)
    (hother : encode other = encodeM op 1#1) : v = encode i := by
  unfold decodeM at h
  split at h
  case isTrue => cases h
  case isFalse hzero =>
    simp only [field_eq_div_mod] at hzero hop h
    apply BitVec.eq_of_toNat_eq
    split at h <;> cases h
    · simp only [hfloor, toNat_encodeM, BitVec.toNat_ofNat]
      omega
    · simp only [hother, toNat_encodeM, BitVec.toNat_ofNat]
      omega

theorem eq_encode_of_decodeC {j : Fin Config.numCursors → Instr} (hv : v.toNat < 2 ^ 12)
    (hop : field v 7 0 = op.toNat) (h : decodeC v j = .ok i) (hj : ∀ k, encode (j k) = encodeC op k) :
    v = encode i := by
  unfold decodeC at h
  split at h
  case isTrue => cases h
  case isFalse hzero =>
    cases h
    have hsel : (cursorSelect v).val = field v 11 10 := rfl
    simp only [field_eq_div_mod] at hzero hop hsel
    rw [hj]
    apply BitVec.eq_of_toNat_eq
    rw [toNat_encodeC]
    omega

/-- A value the decoder accepts is the encoding of the command it reads: one case per row of the opcode map, by the
lemma of the row's format (30_encoding.md R95, R96). -/
theorem eq_encode_of_decode_ok (h : decode v = .ok i) : v = encode i := by
  unfold decode at h
  split at h
  case isTrue => cases h
  case isFalse hhigh =>
    split at h
    case isTrue => cases h
    case isFalse hupper =>
      have hv := lt_of_upper_fields_zero (not_not.1 hhigh) (not_not.1 hupper)
      split at h
      case h_1 hop => exact eq_encode_of_decodeM (op := 0x01#8) hv hop h rfl rfl
      case h_2 hop => exact eq_encode_of_decodeM (op := 0x04#8) hv hop h rfl rfl
      case h_3 hop => exact eq_encode_of_decodeM (op := 0x08#8) hv hop h rfl rfl
      case h_4 hop => exact eq_encode_of_decodeN (op := 0x02#8) hv hop h rfl
      case h_5 hop => exact eq_encode_of_decodeN (op := 0x03#8) hv hop h rfl
      case h_6 hop => exact eq_encode_of_decodeN (op := 0x05#8) hv hop h rfl
      case h_7 hop => exact eq_encode_of_decodeN (op := 0x09#8) hv hop h rfl
      case h_8 hop => exact eq_encode_of_decodeN (op := 0x0A#8) hv hop h rfl
      case h_9 hop => exact eq_encode_of_decodeN (op := 0x0B#8) hv hop h rfl
      case h_10 hop => exact eq_encode_of_decodeN (op := 0x0F#8) hv hop h rfl
      case h_11 hop => exact eq_encode_of_decodeC (op := 0x0C#8) hv hop h fun _ => rfl
      case h_12 hop => exact eq_encode_of_decodeC (op := 0x0D#8) hv hop h fun _ => rfl
      case h_13 => cases h

end Sys2Proof

namespace Sys2Proof.Machine

/-! ## The 21 legal words (30_encoding.md R95) -/

variable {v : Word} {i : Instr}

theorem mem_legalCommands_encode (i : Instr) : (encode i, i) ∈ legalCommands := by
  cases i with
  | seqstart k => revert k; decide
  | seqnext k => revert k; decide
  | _ => decide

theorem decode_of_mem_legalCommands : ∀ p ∈ legalCommands, decode p.1 = .ok p.2 := by decide

theorem decode_ok_iff_mem_legalCommands : decode v = .ok i ↔ (v, i) ∈ legalCommands := by
  constructor
  · intro h
    rw [eq_encode_of_decode_ok h]
    exact mem_legalCommands_encode i
  · exact decode_of_mem_legalCommands (v, i)

/-! ## The illegal values (30_encoding.md R97) -/

theorem illegalWord_iff_not_mem : IllegalWord v ↔ ∀ i, (v, i) ∉ legalCommands := by
  constructor
  · rintro ⟨e, herr⟩ i hmem
    cases herr.symm.trans (decode_ok_iff_mem_legalCommands.2 hmem)
  · intro hnot
    cases hd : decode v with
    | error e => exact ⟨e, hd⟩
    | ok i => exact absurd (decode_ok_iff_mem_legalCommands.1 hd) (hnot i)

theorem IllegalWord.ne_ackWord (h : IllegalWord v) : v ≠ ackWord := by
  rintro rfl
  exact illegalWord_iff_not_mem.1 h .ack (mem_legalCommands_encode .ack)

/-! What each of the 21 words keeps, so that a value which does not is illegal. -/

theorem legal_highHalf_clear : ∀ p ∈ legalCommands, p.1.toNat < 2 ^ 32 := by decide

theorem legal_mustBeZero_clear : ∀ p ∈ legalCommands, ∀ f ∈ opcodeFormats.lookup (p.1.setWidth 8),
    commandBits p.1 &&& f.mustBeZero = 0 := by decide

theorem legal_opcode_assigned : ∀ p ∈ legalCommands,
    ¬ (p.1.toNat % 256 ∈ [0x00, 0x06, 0x07, 0x0E] ∨ 0x10 ≤ p.1.toNat % 256) := by decide

theorem illegalWord_of_highHalf (hv : 2 ^ 32 ≤ v.toNat) : IllegalWord v :=
  illegalWord_iff_not_mem.2 fun i hmem => absurd (legal_highHalf_clear (v, i) hmem) (Nat.not_lt.2 hv)

theorem illegalWord_of_mustBeZero {f : Format} (hf : opcodeFormats.lookup (v.setWidth 8) = some f)
    (hne : commandBits v &&& f.mustBeZero ≠ 0) : IllegalWord v :=
  illegalWord_iff_not_mem.2 fun i hmem => hne (legal_mustBeZero_clear (v, i) hmem f hf)

theorem illegalWord_of_opcode (hv : v.toNat % 256 ∈ [0x00, 0x06, 0x07, 0x0E] ∨ 0x10 ≤ v.toNat % 256) :
    IllegalWord v :=
  illegalWord_iff_not_mem.2 fun i hmem => legal_opcode_assigned (v, i) hmem hv

/-! ## Issue and completion of a command (10_state.md R41) -/

variable {s t : State} {rest : List Turn}

theorem runSteps_succ {n : Nat} (h : step s = .next t) : runSteps (n + 1) s = runSteps n t := by
  simp [runSteps, h]

theorem step_issue (hb : s.busy = false) (he : s.err = false) (hv : v ≠ ackWord) :
    step { s with schedule := .write .b64 0x18 v :: rest } = .next (((s.setSchedule rest).issue v).setResp .ok) :=
  step_write_cmd (writeCommand_issue (s := s.setSchedule rest) hb hv he)

/-- The engine's scheduled turn on a pending illegal word is the ILLCMD fault entry (30_encoding.md R97). -/
theorem step_engine_illegal (hs : s.schedule = .engine :: rest) (hb : s.busy = true) (hill : IllegalWord s.pend) :
    step s = .next ((s.setSchedule rest).enterFault .illcmd) := by
  have hturn : step s = engineTurn (s.setSchedule rest) := step_of_schedule_eq hs
  rcases engineTurn_cases (s.setSchedule rest) with ⟨hidle, -⟩ | ⟨-, hrun⟩
  · cases hidle.symm.trans hb
  · rcases completePending_cases (s.setSchedule rest) with ⟨-, hfault⟩ | ⟨i, -, hok, -⟩
    · rw [hturn, hrun, hfault]
    · obtain ⟨e, herr⟩ := hill
      cases hok.symm.trans herr

end Sys2Proof.Machine

section
open Sys2Proof Sys2Proof.Machine

/-- Settles O7: a value that decodes is the encoding of its command, which is in the map, and each of the map's words
decodes to its command. -/
theorem legalCommandsAreThe21 : Obligations.LegalCommandsAreThe21 :=
  ⟨by decide, by decide, fun _ _ => decode_ok_iff_mem_legalCommands⟩

/-- Settles O5: the two steps are the issue and the fault entry; each way to be illegal is excluded by what the 21 legal
words keep. -/
theorem illegalCommandsFault : Obligations.IllegalCommandsFault := by
  refine ⟨fun s v hill hb he => ?fault, fun _ => illegalWord_of_highHalf, fun _ _ => illegalWord_of_mustBeZero,
    fun _ => illegalWord_of_opcode, illegalWord_of_opcode (by decide)⟩
  case fault =>
    have hissue := step_issue (rest := [.engine]) hb he hill.ne_ackWord
    have hfault := step_engine_illegal (s := ((s.setSchedule [.engine]).issue v).setResp .ok) rfl rfl hill
    rw [runSteps_succ hissue, runSteps_succ hfault]
    rfl

end

/-! # The square-root family (40_isqrt.md): the loop of R121 computes the exact root, and R123 the least root above -/

namespace Sys2Proof.Machine

/-! ## The root rounded down -/

theorem sqrt_eq_one {y : Nat} (hpos : 0 < y) (hlt : y < 4) : Nat.sqrt y = 1 :=
  (Nat.eq_sqrt.2 ⟨hpos, hlt⟩).symm

/-- One stage takes the root of `y / 4` to the root of `y`: the new bit is set when the odd candidate's square fits
(40_isqrt.md R121). -/
theorem isqrt_stage (y : Nat) :
    (if (2 * Nat.sqrt (y / 4) + 1) * (2 * Nat.sqrt (y / 4) + 1) ≤ y then 2 * Nat.sqrt (y / 4) + 1
      else 2 * Nat.sqrt (y / 4)) = Nat.sqrt y := by
  have hlow : Nat.sqrt (y / 4) * Nat.sqrt (y / 4) * 4 ≤ y :=
    (Nat.le_div_iff_mul_le (by decide)).1 (Nat.sqrt_le _)
  have hhigh : y < (Nat.sqrt (y / 4) + 1) * (Nat.sqrt (y / 4) + 1) * 4 :=
    (Nat.div_lt_iff_lt_mul (by decide)).1 (Nat.lt_succ_sqrt _)
  rw [Nat.eq_sqrt]
  split
  case isTrue hfits => exact ⟨hfits, by linarith⟩
  case isFalse hexceeds => exact ⟨by linarith, not_le.1 hexceeds⟩

/-- The stages for the low `e` bit pairs complete the root of the bits above them. -/
theorem isqrtLoop_sqrt_shiftRight (x e : Nat) : isqrtLoop x e (Nat.sqrt (x >>> (2 * e))) = Nat.sqrt x := by
  induction e with
  | zero => rfl
  | succ e ih =>
    have hshift : x >>> (2 * (e + 1)) = x >>> (2 * e) / 4 := by
      rw [Nat.mul_succ, Nat.shiftRight_add, Nat.shiftRight_eq_div_pow _ 2]
    rw [isqrtLoop_succ, hshift, isqrt_stage, ih]

/-- The loop's first stage stands at the topmost bit pair, which is not 0. -/
theorem topBitPair_bounds {x : Nat} (hx : x ≠ 0) :
    0 < x >>> (2 * ((bitWidth x - 1) / 2)) ∧ x >>> (2 * ((bitWidth x - 1) / 2)) < 4 := by
  have hwidth : bitWidth x - 1 = Nat.log2 x := by simp [bitWidth, hx]
  rw [hwidth, Nat.shiftRight_eq_div_pow]
  constructor
  · have hlow : 2 ^ (2 * (Nat.log2 x / 2)) ≤ 2 ^ Nat.log2 x := Nat.pow_le_pow_right two_pos (Nat.mul_div_le _ 2)
    exact Nat.div_pos (hlow.trans (Nat.log2_self_le hx)) (by positivity)
  · have hhigh : 2 ^ (Nat.log2 x + 1) ≤ 2 ^ (2 * (Nat.log2 x / 2) + 2) := Nat.pow_le_pow_right two_pos (by omega)
    rw [Nat.div_lt_iff_lt_mul (by positivity), Nat.mul_comm]
    exact (Nat.lt_log2_self.trans_le hhigh).trans_eq (Nat.pow_add 2 _ 2)

theorem isqrtFloor_eq_sqrt (x : Nat) : isqrtFloor x = Nat.sqrt x := by
  unfold isqrtFloor
  split
  case isTrue hsmall =>
    split
    case isTrue hpos => exact (sqrt_eq_one hpos hsmall).symm
    case isFalse hzero => rw [Nat.eq_zero_of_not_pos hzero, Nat.sqrt_zero]
  case isFalse hlarge =>
    obtain ⟨hpos, hlt⟩ := topBitPair_bounds (x := x) (by omega)
    have hloop := isqrtLoop_sqrt_shiftRight x ((bitWidth x - 1) / 2)
    rwa [sqrt_eq_one hpos hlt] at hloop

theorem isqrtFloor_sq_le (x : Nat) : isqrtFloor x * isqrtFloor x ≤ x :=
  isqrtFloor_eq_sqrt x ▸ Nat.sqrt_le x

theorem isqrtFloor_lt_iff {x n : Nat} : isqrtFloor x < n ↔ x < n * n := by
  rw [isqrtFloor_eq_sqrt, Nat.sqrt_lt]

/-! ## The root rounded up -/

/-- The root rounded up is at most `n` exactly for the numbers up to the square of `n` (40_isqrt.md R123). -/
theorem isqrtCeil_le_iff {x n : Nat} : isqrtCeil x ≤ n ↔ x ≤ n * n := by
  have hfloor := isqrtFloor_sq_le x
  unfold isqrtCeil
  split
  case isTrue hinexact =>
    rw [Nat.succ_le_iff]
    constructor
    · exact fun h => (isqrtFloor_lt_iff.1 h).le
    · exact fun h => Nat.mul_self_lt_mul_self_iff.1 (hinexact.trans_le h)
  case isFalse hexact =>
    rw [← Nat.mul_self_le_mul_self_iff, hfloor.antisymm (not_lt.1 hexact)]

theorem isqrtCeil_isLeast (x : Nat) : IsLeast {r : Nat | x ≤ r * r} (isqrtCeil x) :=
  ⟨isqrtCeil_le_iff.1 le_rfl, fun _ => isqrtCeil_le_iff.2⟩

/-! ## The completions of ISQRTF and ISQRTC (40_isqrt.md R124, R125) -/

theorem exec_isqrtf (s : State) :
    exec .isqrtf s = .next (s.setRes (narrow (isqrtFloor s.arg0.toNat))).retire := rfl

theorem exec_isqrtc (s : State) :
    exec .isqrtc s = .next (s.setRes (narrow (isqrtCeil s.arg0.toNat))).retire := rfl

end Sys2Proof.Machine

section
open Sys2Proof Sys2Proof.Machine

/-- Settles O10: the loop's result is the exact root, and the root of a 64-bit value is below 2^32. -/
theorem isqrtfGivesFloorRoot : Obligations.IsqrtfGivesFloorRoot := by
  refine ⟨by decide, fun s => ⟨isqrtFloor s.arg0.toNat, isqrtFloor_sq_le _, ?next, ?bound, exec_isqrtf s⟩⟩
  case next => exact isqrtFloor_lt_iff.1 (Nat.lt_succ_self _)
  case bound => exact isqrtFloor_lt_iff.2 s.arg0.isLt

/-- Settles O11: a root rounded up is at most `n` up to the square of `n`, read at 2^32 for the bound and at 2^32 - 1
for where the bound is reached. -/
theorem isqrtcGivesCeilRoot : Obligations.IsqrtcGivesCeilRoot := by
  refine ⟨by decide, fun s => ⟨isqrtCeil s.arg0.toNat, isqrtCeil_isLeast _, ?_⟩⟩
  have hbound : isqrtCeil s.arg0.toNat ≤ 2 ^ 32 := isqrtCeil_le_iff.2 s.arg0.isLt.le
  have hbelow : isqrtCeil s.arg0.toNat ≤ 2 ^ 32 - 1 ↔ s.arg0.toNat ≤ 0xFFFFFFFE00000001 := isqrtCeil_le_iff
  exact ⟨hbound, by omega, exec_isqrtc s⟩

end

/-! # The construction family (42_construction.md): the trial division of R142 decides primality, R151 and R175 descend to
the greatest prime, and the common-universe table holds what the search finds -/

namespace Sys2Proof.Machine

/-! ## The verdict of `is_prime` (41_primality.md R142), said of the least prime factor -/

section
variable {p m : Nat}

theorem mod_eq_zero_of_eq_minFac {d : Nat} (h : p.minFac = d) : p % d = 0 :=
  Nat.mod_eq_zero_of_dvd (h ▸ p.minFac_dvd)

/-- Every prime up to 257 is in the ROM: of the other numbers each has a smaller divisor. -/
theorem mem_smallPrimes_of_prime {q : Nat} (hq : q.Prime) (hle : q < 258) : q ∈ smallPrimes := by
  have hsieve : ∀ n < 258, n ∈ smallPrimes ∨ n < 2 ∨ ∃ d ∈ [2, 3, 5, 7, 11, 13], d < n ∧ n % d = 0 := by
    decide +kernel
  rcases hsieve q hle with hmem | hsmall | ⟨d, hd, hlt, hmod⟩
  · exact hmem
  · exact absurd hq.two_le (Nat.not_le.2 hsmall)
  · rcases (Nat.dvd_prime hq).1 (Nat.dvd_of_mod_eq_zero hmod) with rfl | rfl
    · exact absurd hd (by decide)
    · exact absurd hlt (lt_irrefl _)

/-- An odd number's least factor is one of the ROM's divisors that the scan tries, or lies above all of them. -/
theorem minFac_mem_smallPrimes_or_lt (hodd : p % 2 = 1) (hp : p ≠ 1) :
    p.minFac ∈ smallPrimes.drop 1 ∨ ∀ d ∈ smallPrimes.drop 1, d < p.minFac := by
  have hprime := Nat.minFac_prime hp
  by_cases hlt : p.minFac < 258
  · left
    rcases List.mem_cons.1 (mem_smallPrimes_of_prime hprime hlt) with htwo | hmem
    · have := mod_eq_zero_of_eq_minFac htwo
      omega
    · exact hmem
  · have hrom : ∀ d ∈ smallPrimes.drop 1, d < 258 := by decide
    exact .inr fun d hd => (hrom d hd).trans_le (not_lt.1 hlt)

/-- A scan of increasing divisors that stops has compared the least factor with the bound; one that runs out has passed
it. -/
theorem tableScan_spec {ds : List Nat} (hsorted : ds.Pairwise (· < ·)) (htwo : ∀ d ∈ ds, 2 ≤ d)
    (hfac : p.minFac ∈ ds ∨ ∀ d ∈ ds, d < p.minFac) :
    (∀ b, tableScan p m ds = some b → (b = true ↔ m < p.minFac)) ∧
      (tableScan p m ds = none → p.minFac ∉ ds) := by
  induction ds with
  | nil => simp
  | cons d ds ih =>
    obtain ⟨hd, hsorted⟩ := List.pairwise_cons.1 hsorted
    obtain ⟨hdtwo, htwo⟩ := List.forall_mem_cons.1 htwo
    rw [tableScan_cons]
    split
    case isTrue hbound =>
      have hle : d ≤ p.minFac := by
        rcases hfac with hmem | hlt
        · rcases List.mem_cons.1 hmem with heq | hmem
          · exact heq.ge
          · exact (hd _ hmem).le
        · exact (hlt d List.mem_cons_self).le
      simp [hbound.trans_le hle]
    case isFalse hbound =>
      split
      case isTrue hdvd =>
        have hle := Nat.minFac_le_of_dvd hdtwo (Nat.dvd_of_mod_eq_zero hdvd)
        simp [hle.trans (not_lt.1 hbound)]
      case isFalse hndvd =>
        have hne : p.minFac ≠ d := fun heq => hndvd (mod_eq_zero_of_eq_minFac heq)
        have hrest : p.minFac ∈ ds ∨ ∀ e ∈ ds, e < p.minFac := by
          rcases hfac with hmem | hlt
          · exact .inl ((List.mem_cons.1 hmem).resolve_left hne)
          · exact .inr fun e he => hlt e (List.mem_cons_of_mem d he)
        obtain ⟨hsome, hnone⟩ := ih hsorted htwo hrest
        exact ⟨hsome, fun h => List.not_mem_cons_of_ne_of_not_mem hne (hnone h)⟩

/-- A prime other than 2 and 3 is on the wheel. -/
theorem wheel_residue_of_prime {q : Nat} (hq : q.Prime) (htwo : q ≠ 2) (hthree : q ≠ 3) :
    5 ≤ q ∧ (q % 6 = 1 ∨ q % 6 = 5) := by
  have hpos := hq.two_le
  have hodd : q % 2 ≠ 0 := fun h =>
    htwo ((Nat.prime_dvd_prime_iff_eq Nat.prime_two hq).1 (Nat.dvd_of_mod_eq_zero h)).symm
  have hthird : q % 3 ≠ 0 := fun h =>
    hthree ((Nat.prime_dvd_prime_iff_eq Nat.prime_three hq).1 (Nat.dvd_of_mod_eq_zero h)).symm
  omega

/-- The wheel from `i` compares the least factor with the bound, when it has not passed that factor and has passes enough
to reach the bound. -/
theorem wheel_eq_true_iff (hres : p.minFac % 6 = 1 ∨ p.minFac % 6 = 5) {fuel i : Nat} (hi : i % 6 = 5)
    (hpassed : i ≤ p.minFac ∨ m < p.minFac) (hfuel : m < i + 6 * fuel) :
    wheel p m fuel i = true ↔ m < p.minFac := by
  induction fuel generalizing i with
  | zero =>
    simp only [wheel_zero, true_iff]
    omega
  | succ fuel ih =>
    rw [wheel_succ]
    split
    case isFalse hend =>
      simp only [true_iff]
      omega
    case isTrue hle =>
      split
      case isTrue hdvd =>
        have := Nat.minFac_le_of_dvd (by omega : 2 ≤ i) (Nat.dvd_of_mod_eq_zero hdvd)
        simp only [Bool.false_eq_true, false_iff]
        omega
      case isFalse hndvd =>
        have hne : p.minFac ≠ i := fun heq => hndvd (mod_eq_zero_of_eq_minFac heq)
        split
        case isTrue hdvd =>
          obtain ⟨hle, hdvd⟩ := hdvd
          have := Nat.minFac_le_of_dvd (by omega : 2 ≤ i + 2) (Nat.dvd_of_mod_eq_zero hdvd)
          simp only [Bool.false_eq_true, false_iff]
          omega
        case isFalse hndvd =>
          have hne : p.minFac = i + 2 → m < i + 2 := fun heq =>
            not_le.1 fun hle => hndvd ⟨hle, mod_eq_zero_of_eq_minFac heq⟩
          exact ih (by omega) (by omega) (by omega)

/-- The bound of the trial division (41_primality.md R142) lies below the least factor exactly for the primes. -/
theorem isqrtCeil_lt_minFac_iff (hp : 3 ≤ p) : isqrtCeil p < p.minFac ↔ p.Prime := by
  constructor
  · intro hlt
    by_contra hcomposite
    have hsq : p.minFac * p.minFac ≤ isqrtCeil p * isqrtCeil p :=
      (sq p.minFac ▸ Nat.minFac_sq_le_self (by omega) hcomposite).trans (isqrtCeil_le_iff.1 le_rfl)
    exact absurd (Nat.mul_self_le_mul_self_iff.1 hsq) (not_le.2 hlt)
  · intro hprime
    obtain ⟨k, rfl⟩ := Nat.exists_eq_add_of_le hp
    have hle : isqrtCeil (3 + k) ≤ 2 + k := isqrtCeil_le_iff.2 (by nlinarith)
    rw [hprime.minFac_eq]
    omega

/-- The closed form of 41_primality.md R143. -/
theorem isPrime_eq_true_iff (p : Nat) : isPrime p = true ↔ p % 2 = 1 ∧ (p = 1 ∨ p.Prime) := by
  rcases Nat.mod_two_eq_zero_or_one p with heven | hodd
  · simp [isPrime_even heven, heven]
  by_cases hone : p = 1
  · subst hone
    decide
  have hfac := Nat.minFac_prime hone
  have hverdict : isPrime p = true ↔ isqrtCeil p < p.minFac := by
    obtain ⟨hsome, hnone⟩ := tableScan_spec (m := isqrtCeil p) (by decide) (by decide)
      (minFac_mem_smallPrimes_or_lt hodd hone)
    unfold isPrime
    rw [if_neg (by omega)]
    cases hscan : tableScan p (isqrtCeil p) (smallPrimes.drop 1) with
    | some b => exact hsome b hscan
    | none =>
      have hthree : p.minFac ≠ 3 := fun heq => hnone hscan (heq ▸ by decide)
      have htwo : p.minFac ≠ 2 := fun heq => by
        have := mod_eq_zero_of_eq_minFac heq
        omega
      obtain ⟨hfive, hres⟩ := wheel_residue_of_prime hfac htwo hthree
      exact wheel_eq_true_iff hres rfl (.inl hfive) (by omega)
  rw [hverdict, isqrtCeil_lt_minFac_iff (by omega)]
  simp [hodd, hone]

end

/-! ## The descent of `prime_pred` (41_primality.md R151) -/

theorem descend_isGreatest {fuel p : Nat} (hodd : p % 2 = 1) (hp : 3 ≤ p) (hfuel : p ≤ fuel) :
    IsGreatest {q : Nat | q.Prime ∧ q ≤ p} (descend fuel p) := by
  induction fuel generalizing p with
  | zero => omega
  | succ fuel ih =>
    rw [descend_succ]
    split
    case isTrue hyes =>
      have hprime := ((isPrime_eq_true_iff p).1 hyes).2.resolve_left (by omega)
      exact ⟨⟨hprime, le_rfl⟩, fun q hq => hq.2⟩
    case isFalse hno =>
      have hcomposite : ¬ p.Prime := fun h => hno ((isPrime_eq_true_iff p).2 ⟨hodd, .inr h⟩)
      have hthree : p ≠ 3 := fun h => hcomposite (h ▸ Nat.prime_three)
      obtain ⟨⟨hprime, hle⟩, hupper⟩ := ih (p := p - 2) (by omega) (by omega) (by omega)
      refine ⟨⟨hprime, by omega⟩, fun q ⟨hq, hqp⟩ => hupper ⟨hq, ?_⟩⟩
      have hne : q ≠ p := fun h => hcomposite (h ▸ hq)
      rcases hq.eq_two_or_odd with htwo | hqodd <;> omega

/-- The closed form of 41_primality.md R152 from 3 on. -/
theorem primePred_isGreatest {p : Nat} (hp : 3 ≤ p) : IsGreatest {q : Nat | q.Prime ∧ q ≤ p} (primePred p) := by
  unfold primePred
  rw [if_neg (by omega), if_neg (by omega)]
  split
  case isFalse hodd => exact descend_isGreatest (by omega) hp le_rfl
  case isTrue heven =>
    obtain ⟨⟨hprime, hle⟩, hupper⟩ := descend_isGreatest (fuel := p) (p := p - 1) (by omega) (by omega) (by omega)
    refine ⟨⟨hprime, by omega⟩, fun q ⟨hq, hqp⟩ => hupper ⟨hq, ?_⟩⟩
    rcases hq.eq_two_or_odd with htwo | hqodd <;> omega

/-! ## The search for the prime (42_construction.md R175, R180) -/

section
variable {u p : Nat}

theorem searchLoop_isGreatest {fuel : Nat} (hu : 3 ≤ u) (hfuel : u ≤ fuel) :
    IsGreatest {q : Nat | q.Prime ∧ q % 4 = 3 ∧ q ≤ u} (searchLoop fuel (primePred u)) := by
  induction fuel generalizing u with
  | zero => omega
  | succ fuel ih =>
    obtain ⟨⟨hprime, hle⟩, hupper⟩ := primePred_isGreatest hu
    have hthree : 3 ≤ primePred u := hupper ⟨Nat.prime_three, hu⟩
    rw [searchLoop_succ]
    split
    case isTrue hmod => exact ⟨⟨hprime, hmod, hle⟩, fun q ⟨hq, _, hqu⟩ => hupper ⟨hq, hqu⟩⟩
    case isFalse hmod =>
      rw [if_neg hprime.ne_zero]
      obtain ⟨⟨hfound, hfoundmod, hfoundle⟩, hfoundupper⟩ := ih (u := primePred u - 1) (by omega) (by omega)
      refine ⟨⟨hfound, hfoundmod, by omega⟩, fun q ⟨hq, hqmod, hqu⟩ => ?_⟩
      have hqle : q ≤ primePred u := hupper ⟨hq, hqu⟩
      have hne : q ≠ primePred u := fun h => hmod (h ▸ hqmod)
      exact hfoundupper ⟨hq, hqmod, by omega⟩

theorem search_selectedPrime (u : Nat) : SelectedPrime u (search u) := by
  by_cases hu : 3 ≤ u
  · exact .inr ⟨hu, searchLoop_isGreatest hu (Nat.le_succ u)⟩
  · have hsmall : ∀ n < 3, search n = 0 := by decide
    exact .inl ⟨by omega, hsmall u (by omega)⟩

theorem SelectedPrime.eq_search (h : SelectedPrime u p) : p = search u := by
  rcases h, search_selectedPrime u with ⟨⟨hle, hp⟩ | ⟨hge, hp⟩, ⟨hle', hs⟩ | ⟨hge', hs⟩⟩
  · exact hp.trans hs.symm
  · omega
  · omega
  · exact hp.unique hs

/-! ## The common-universe table (42_construction.md R170, R171, R176) -/

/-- The keys of the table in its order, two for each exponent of 42_construction.md R170. -/
def tableKeys : List Nat := [16, 24, 32, 40, 48, 56, 63, 64].flatMap fun k => [2 ^ k - 2, 2 ^ k - 1]

theorem mem_tableKeys_iff : u ∈ tableKeys ↔ TableKey u := by
  simp only [tableKeys, TableKey, List.mem_flatMap, List.mem_pair]

theorem commonUniverseTable_keys : commonUniverseTable.map Prod.fst = tableKeys := by decide

theorem exists_mem_commonUniverseTable_iff : (∃ p, (u, p) ∈ commonUniverseTable) ↔ TableKey u := by
  rw [← mem_tableKeys_iff, ← commonUniverseTable_keys]
  simp

/-- A prime that is 3 modulo 4 is selected for every universe from it to the end of a gap without such primes. -/
theorem selectedPrime_of_gap {top : Nat} (hp : p.Prime)
    (hgap : ∀ {q : Nat}, p < q → q ≤ top → q % 4 = 3 → ¬ q.Prime)
    (hu : p % 4 = 3 ∧ p ≤ u ∧ u ≤ top := by decide) : SelectedPrime u p := by
  obtain ⟨hmod, hpu, hutop⟩ := hu
  refine .inr ⟨by omega, ⟨hp, hmod, hpu⟩, fun q ⟨hq, hqmod, hqu⟩ => ?_⟩
  exact not_lt.1 fun hlt => hgap hlt (hqu.trans hutop) hqmod hq

/-- Each entry of the table by its prime and the gap above it, two universes for each. -/
theorem commonUniverseTable_selectedPrime : ∀ e ∈ commonUniverseTable, SelectedPrime e.1 e.2 := by
  simp only [commonUniverseTable, List.forall_mem_cons]
  exact ⟨selectedPrime_of_gap prime_65519 gap_16, selectedPrime_of_gap prime_65519 gap_16,
    selectedPrime_of_gap prime_16777199 gap_24, selectedPrime_of_gap prime_16777199 gap_24,
    selectedPrime_of_gap prime_4294967291 gap_32, selectedPrime_of_gap prime_4294967291 gap_32,
    selectedPrime_of_gap prime_1099511627563 gap_40, selectedPrime_of_gap prime_1099511627563 gap_40,
    selectedPrime_of_gap prime_281474976710591 gap_48, selectedPrime_of_gap prime_281474976710591 gap_48,
    selectedPrime_of_gap prime_72057594037927931 gap_56, selectedPrime_of_gap prime_72057594037927931 gap_56,
    selectedPrime_of_gap prime_9223372036854775783 gap_63, selectedPrime_of_gap prime_9223372036854775783 gap_63,
    selectedPrime_of_gap prime_18446744073709551427 gap_64, selectedPrime_of_gap prime_18446744073709551427 gap_64,
    List.forall_mem_nil _⟩

theorem eq_search_of_mem_commonUniverseTable (h : (u, p) ∈ commonUniverseTable) : p = search u :=
  (commonUniverseTable_selectedPrime (u, p) h).eq_search

theorem mem_commonUniverseTable_of_lookup (h : lookup u = some p) : (u, p) ∈ commonUniverseTable := by
  obtain ⟨before, after, htable, -⟩ := List.lookup_eq_some_iff.1 h
  rw [htable]
  exact List.mem_append_right before List.mem_cons_self

theorem selectPrime_fst_eq_search (u : Nat) (nt : Bool) : (selectPrime u nt).1 = search u := by
  rcases selectPrime_cases u nt with ⟨-, p, hlookup, hsel⟩ | ⟨-, hsel⟩
  · rw [hsel]
    exact eq_search_of_mem_commonUniverseTable (mem_commonUniverseTable_of_lookup hlookup)
  · rw [hsel]

end

/-! ## Seed mixing (42_construction.md R186) -/

theorem mix_eq_xor (w : Word) : mix w = w ^^^ (Config.shuffle1 ^^^ Config.shuffle2) := BitVec.xor_assoc ..

theorem mix_involutive : Function.Involutive mix := by
  intro w
  rw [mix_eq_xor, mix_eq_xor, BitVec.xor_assoc, BitVec.xor_self, BitVec.xor_zero]

theorem mix_zero : mix 0 = Config.shuffle1 ^^^ Config.shuffle2 :=
  (mix_eq_xor 0).trans BitVec.zero_xor

/-! ## The completions of CONSTRUCT and DEFAULT (42_construction.md R187, R189) -/

/-- Construction of a universe other than 0, with or without the table. -/
theorem constructWith_of_ne_zero {s : State} (nt : Bool) (h : s.arg0 ≠ 0) :
    constructWith nt s =
      .next (((s.install s.arg0 (mix s.arg1) (narrow (selectPrime s.arg0.toNat nt).1)).setSelection
        (selectPrime s.arg0.toNat nt)).retire) := by
  have hguard : (Operand.arg0.value s == 0) = false := by
    rw [beq_eq_false_iff_ne, Operand.value_eq, Operand.word_arg0]
    exact fun hzero => h (BitVec.eq_of_toNat_eq hzero)
  rw [constructWith, hguard, guardFault_false, finish_eq]
  rfl

theorem exec_construct (s : State) : exec .construct s = constructWith false s := rfl

theorem exec_defaultInstance (s : State) : exec .defaultInstance s = .next (s.install 1 0 0).retire := rfl

end Sys2Proof.Machine

section
open Sys2Proof Sys2Proof.Machine

/-- Settles O17: an entry's prime and the search's result are both the greatest prime that is 3 modulo 4 and not above the
universe, and `select_prime` answers one of the two. -/
theorem tableAgreesWithSearch : Obligations.TableAgreesWithSearch :=
  ⟨fun _ => exists_mem_commonUniverseTable_iff, rfl, fun _ _ => eq_search_of_mem_commonUniverseTable,
    selectPrime_fst_eq_search⟩

/-- Settles O21: mixing is an involution, and the seeds are read off the completions of CONSTRUCT and DEFAULT. -/
theorem seedMixing : Obligations.SeedMixing := by
  refine ⟨fun w => ⟨mix_eq_xor w, mix_involutive w⟩, mix_involutive.bijective, mix_zero, fun s hne hzero => ?construct,
    fun s => ⟨_, exec_defaultInstance s, rfl⟩⟩
  case construct =>
    refine ⟨_, (exec_construct s).trans (constructWith_of_ne_zero false hne), ?_⟩
    have hseed : mix s.arg1 = Config.shuffle1 ^^^ Config.shuffle2 := by rw [hzero, mix_zero]
    exact hseed

/-- Settles O22: the word by the decoder, and the whole next state by the completion of DEFAULT. -/
theorem defaultInstallsDegenerate : Obligations.DefaultInstallsDegenerate := by
  refine ⟨by decide, fun s => ?completes⟩
  case completes => exact exec_defaultInstance s

end

/-! # The mapping family (43_mapping.md): the modular square, the core mapping and the evaluation at register width are the
exact functions of R200, R204 and R208, because nothing is lost at 128, 64 and 65 bits -/

namespace Sys2Proof.Machine

/-! ## The datapath at register width computes the exact functions -/

section
variable {u sd p x m : Word}

theorem narrow_toNat (w : Word) : narrow w.toNat = w := (BitVec.ofNat_toNat 64 w).trans (BitVec.setWidth_eq w)

/-- A remainder is below its modulus, so narrowing one that was taken at a greater width loses nothing (43_mapping.md R203,
R208). -/
theorem toNat_narrowed_umod {w : Nat} {a : BitVec w} (hw : 64 ≤ w) (hm : m ≠ 0) :
    ((a % m.setWidth w).setWidth 64).toNat = a.toNat % m.toNat := by
  have hlt : a.toNat % m.toNat < m.toNat := Nat.mod_lt _ (BitVec.toNat_pos_of_ne_zero hm)
  rw [BitVec.toNat_setWidth, BitVec.toNat_umod, BitVec.toNat_setWidth_of_le hw, Nat.mod_eq_of_lt (hlt.trans m.isLt)]

/-- The square of a register fits 128 bits (43_mapping.md R200). -/
theorem toNat_wideSquare (x : Word) : (x.setWidth 128 * x.setWidth 128).toNat = x.toNat * x.toNat := by
  have hx : (x.setWidth 128).toNat = x.toNat := BitVec.toNat_setWidth_of_le (by decide)
  have hsquare : x.toNat * x.toNat < 2 ^ 64 * 2 ^ 64 := Nat.mul_lt_mul'' x.isLt x.isLt
  rw [BitVec.toNat_mul_of_lt (by rw [hx]; exact hsquare), hx]

/-- The sum of two registers fits 65 bits (43_mapping.md R209). -/
theorem toNat_wideSum (x y : Word) : (x.setWidth 65 + y.setWidth 65).toNat = x.toNat + y.toNat := by
  have hx : (x.setWidth 65).toNat = x.toNat := BitVec.toNat_setWidth_of_le (by decide)
  have hy : (y.setWidth 65).toNat = y.toNat := BitVec.toNat_setWidth_of_le (by decide)
  have hsum : x.toNat + y.toNat < 2 ^ 64 + 2 ^ 64 := Nat.add_lt_add x.isLt y.isLt
  rw [BitVec.toNat_add_of_lt (by rw [hx, hy]; exact hsum), hx, hy]

theorem toNat_modsqWord (hm : m ≠ 0) : (modsqWord x m).toNat = modsq x.toNat m.toNat := by
  rw [modsqWord, modsq, toNat_narrowed_umod (by decide) hm, toNat_wideSquare]

/-- One case per branch of 43_mapping.md R204; below the prime the square is reduced by a modulus other than 0, and the
fold's subtraction does not wrap. -/
theorem toNat_permuteWord : (permuteWord p x).toNat = permute p.toNat x.toNat := by
  unfold permuteWord permute
  by_cases hgap : p ≤ x
  · rw [if_pos hgap, if_pos (BitVec.le_def.1 hgap)]
  have hlt : x.toNat < p.toNat := not_le.1 hgap
  have hsquare := toNat_modsqWord (x := x) (m := p) fun hzero => by simp [hzero] at hlt
  have hhalf : x ≤ p >>> 1 ↔ x.toNat ≤ p.toNat >>> 1 := by rw [BitVec.le_def, BitVec.toNat_ushiftRight]
  rw [if_neg hgap, if_neg (not_le.2 hlt)]
  by_cases hfold : x ≤ p >>> 1
  · rw [if_pos hfold, if_pos (hhalf.1 hfold), hsquare]
  · have hle : modsqWord x p ≤ p := by
      rw [BitVec.le_def, hsquare]
      exact (Nat.mod_lt _ (Nat.zero_lt_of_lt hlt)).le
    rw [if_neg hfold, if_neg (hhalf.not.1 hfold), BitVec.toNat_sub_of_le hle, hsquare]

theorem toNat_evaluateWord (hu : u ≠ 0) :
    (evaluateWord u sd p x).toNat = evaluate u.toNat sd.toNat p.toNat x.toNat := by
  rw [evaluateWord, evaluate, toNat_permuteWord, toNat_narrowed_umod (by decide) hu, toNat_wideSum, toNat_permuteWord]

end

/-! ## What the commands write to RES -/

variable {s : State}

theorem narrow_modsq (h : s.arg1 ≠ 0) :
    narrow (modsq s.arg0.toNat s.arg1.toNat) = modsqWord s.arg0 s.arg1 := by
  rw [← toNat_modsqWord h, narrow_toNat]

theorem narrow_permute (p x : Word) : narrow (permute p.toNat x.toNat) = permuteWord p x := by
  rw [← toNat_permuteWord, narrow_toNat]

/-- An index in range belongs to a universe other than 0, so the evaluation's remainder is defined. -/
theorem narrow_evaluateAt {i : Word} (h : i < s.univ) :
    narrow (s.evaluateAt i.toNat) = evaluateWord s.univ s.seed s.prime i := by
  have huniv : s.univ ≠ 0 := fun hzero => BitVec.not_lt_zero (hzero ▸ h)
  have hexact : s.evaluateAt i.toNat = evaluate s.univ.toNat s.seed.toNat s.prime.toNat i.toNat := rfl
  rw [hexact, ← toNat_evaluateWord huniv, narrow_toNat]

/-! ## The completions of MODSQ, PERMUTE and EVAL (43_mapping.md R203, R206, R210) -/

/-- The check of an index against the universe raises RANGE. -/
theorem guardFault_of_univ_le {i : Word} (r : Result) (h : s.univ ≤ i) :
    guardFault (decide (i.toNat ≥ s.univ.toNat)) .range s r = .next (s.enterFault .range) := by
  rw [decide_eq_true (BitVec.le_def.1 h), guardFault_true]

/-- The check of an index against the universe passes. -/
theorem guardFault_of_lt_univ {i : Word} (r : Result) (h : i < s.univ) :
    guardFault (decide (i.toNat ≥ s.univ.toNat)) .range s r = r := by
  rw [decide_eq_false (Nat.not_le.2 (BitVec.lt_def.1 h)), guardFault_false]

theorem exec_modsq (s : State) :
    exec .modsq s = guardFault (s.arg1.toNat == 0) .divzero s
      (.next (s.setRes (narrow (modsq s.arg0.toNat s.arg1.toNat))).retire) := rfl

theorem exec_modsq_of_eq_zero (h : s.arg1 = 0) : exec .modsq s = .next (s.enterFault .divzero) := by
  have hguard : (s.arg1.toNat == 0) = true := by simp [h]
  rw [exec_modsq, hguard, guardFault_true]

theorem exec_modsq_of_ne_zero (h : s.arg1 ≠ 0) :
    exec .modsq s = .next (s.setRes (modsqWord s.arg0 s.arg1)).retire := by
  have hguard : (s.arg1.toNat == 0) = false := beq_eq_false_iff_ne.2 (BitVec.toNat_pos_of_ne_zero h).ne'
  rw [exec_modsq, hguard, guardFault_false, narrow_modsq h]

theorem exec_permute (s : State) :
    exec .permute s = guardFault (decide (s.arg0.toNat ≥ s.univ.toNat)) .range s
      (.next (s.setRes (narrow (permute s.prime.toNat s.arg0.toNat))).retire) := rfl

theorem exec_permute_of_univ_le (h : s.univ ≤ s.arg0) : exec .permute s = .next (s.enterFault .range) := by
  rw [exec_permute, guardFault_of_univ_le _ h]

theorem exec_permute_of_lt_univ (h : s.arg0 < s.univ) :
    exec .permute s = .next (s.setRes (permuteWord s.prime s.arg0)).retire := by
  rw [exec_permute, guardFault_of_lt_univ _ h, narrow_permute]

theorem exec_eval (s : State) :
    exec .eval s = guardFault (decide (s.arg0.toNat ≥ s.univ.toNat)) .range s
      (.next (s.setRes (narrow (s.evaluateAt s.arg0.toNat))).retire) := rfl

theorem exec_eval_of_univ_le (h : s.univ ≤ s.arg0) : exec .eval s = .next (s.enterFault .range) := by
  rw [exec_eval, guardFault_of_univ_le _ h]

theorem exec_eval_of_lt_univ (h : s.arg0 < s.univ) :
    exec .eval s = .next (s.setRes (evaluateWord s.univ s.seed s.prime s.arg0)).retire := by
  rw [exec_eval, guardFault_of_lt_univ _ h, narrow_evaluateAt h]

end Sys2Proof.Machine

section
open Sys2Proof Sys2Proof.Machine

/-- Settles O23: the completion with a modulus of 0 and with any other, and the exact value of the 128-bit datapath. -/
theorem modsqOnTheWideSquare : Obligations.ModsqOnTheWideSquare := by
  refine ⟨by decide, fun s => ⟨fun hzero => ?fault, fun hne => ⟨?completes, toNat_modsqWord hne⟩⟩⟩
  case fault => exact exec_modsq_of_eq_zero hzero
  case completes => exact exec_modsq_of_ne_zero hne

/-- Settles O24: the completions out of range and in range, where the core mapping on exact numbers is the one at register
width. -/
theorem permuteAppliesCoreMapping : Obligations.PermuteAppliesCoreMapping := by
  refine ⟨by decide, fun s => ⟨fun hout => ?fault, fun hin => ?completes⟩⟩
  case fault => exact exec_permute_of_univ_le hout
  case completes => exact exec_permute_of_lt_univ hin

/-- Settles O25: the completions out of range and in range, where the evaluation on the exact sum is the one on 65 bits. -/
theorem evalOnTheWideSum : Obligations.EvalOnTheWideSum := by
  refine ⟨by decide, fun s => ⟨fun hout => ?fault, fun hin => ?completes⟩⟩
  case fault => exact exec_eval_of_univ_le hout
  case completes => exact exec_eval_of_lt_univ hin

end

/-! # The sequence family (44_sequence.md): SEQSTART places a cursor, SEQNEXT yields at it and advances it, and a
started sequence runs to UNIVERSE -/

namespace Sys2Proof.Machine

variable {s : State} {k : Fin Config.numCursors}

/-! ## A write to one cursor (10_state.md R24) -/

theorem State.setCursor_cur_self (s : State) (k : Fin Config.numCursors) (v : Word) : (s.setCursor k v).cur[k] = v :=
  Vector.getElem_set_self k.isLt

theorem State.setCursor_cur_of_ne {j : Fin Config.numCursors} (s : State) (v : Word) (h : j ≠ k) :
    (s.setCursor k v).cur[j] = s.cur[j] :=
  Vector.getElem_set_ne k.isLt j.isLt (Fin.val_ne_of_ne h.symm)

/-! ## The completions of SEQSTART and SEQNEXT (44_sequence.md R232, R233) -/

theorem exec_seqstart (k : Fin Config.numCursors) (s : State) :
    exec (.seqstart k) s = guardFault (decide (s.arg0.toNat > s.univ.toNat)) .range s
      (.next (s.setCursor k s.arg0).retire) := rfl

theorem exec_seqstart_of_univ_lt (h : s.univ < s.arg0) : exec (.seqstart k) s = .next (s.enterFault .range) := by
  rw [exec_seqstart, decide_eq_true (BitVec.lt_def.1 h), guardFault_true]

theorem exec_seqstart_of_le_univ (h : s.arg0 ≤ s.univ) :
    exec (.seqstart k) s = .next (s.setCursor k s.arg0).retire := by
  rw [exec_seqstart, decide_eq_false (Nat.not_lt.2 (BitVec.le_def.1 h)), guardFault_false]

/-- The writes of a SEQNEXT that does not fault: the value is for the cursor before the increment
(44_sequence.md R233). -/
def State.yieldAt (s : State) (k : Fin Config.numCursors) : State :=
  (s.setRes (evaluateWord s.univ s.seed s.prime s.cur[k])).setCursor k (s.cur[k] + 1)

theorem exec_seqnext (k : Fin Config.numCursors) (s : State) :
    exec (.seqnext k) s = guardFault (decide (s.cur[k].toNat ≥ s.univ.toNat)) .range s
      (.next ((s.setRes (narrow (s.evaluateAt s.cur[k].toNat))).setCursor k
        (narrow (s.cur[k].toNat + 1))).retire) := rfl

theorem exec_seqnext_of_univ_le (h : s.univ ≤ s.cur[k]) : exec (.seqnext k) s = .next (s.enterFault .range) := by
  rw [exec_seqnext, guardFault_of_univ_le _ h]

theorem exec_seqnext_of_lt_univ (h : s.cur[k] < s.univ) : exec (.seqnext k) s = .next (s.yieldAt k).retire := by
  have hsucc : narrow (s.cur[k].toNat + 1) = s.cur[k] + 1 :=
    (BitVec.ofNat_add _ 1).trans (congrArg (· + 1) (narrow_toNat s.cur[k]))
  rw [exec_seqnext, guardFault_of_lt_univ _ h, narrow_evaluateAt h, hsucc]
  rfl

/-! ## The cursors after a yield -/

theorem State.yieldAt_cur_self (s : State) (k : Fin Config.numCursors) : (s.yieldAt k).cur[k] = s.cur[k] + 1 :=
  State.setCursor_cur_self _ k _

theorem State.yieldAt_cur_of_ne {j : Fin Config.numCursors} (s : State) (h : j ≠ k) :
    (s.yieldAt k).cur[j] = s.cur[j] :=
  State.setCursor_cur_of_ne _ _ h

/-- A cursor below UNIVERSE does not wrap when it advances (44_sequence.md R233). -/
theorem toNat_succ_of_lt {i u : Word} (h : i < u) : (i + 1).toNat = i.toNat + 1 := by
  bv_omega

/-! ## The run of a sequence (44_sequence.md R230) -/

theorem yields_succ {t : State} {n : Nat} (h : exec (.seqnext k) s = .next t) (hdone : t.done = true) :
    yields k (n + 1) s = (yields k n t).map fun r => (t.res :: r.1, r.2) := by
  rw [yields, h]
  exact if_pos hdone

/-- The evaluations of the `n` indices from `i` on, in order. -/
def State.evaluationsFrom (s : State) (i : Word) (n : Nat) : List Word :=
  (List.range n).map fun j => evaluateWord s.univ s.seed s.prime (i + BitVec.ofNat 64 j)

theorem State.evaluationsFrom_succ (s : State) (i : Word) (n : Nat) :
    s.evaluationsFrom i (n + 1) = evaluateWord s.univ s.seed s.prime i :: s.evaluationsFrom (i + 1) n := by
  have hshift (j : Nat) : i + BitVec.ofNat 64 (j + 1) = i + 1 + BitVec.ofNat 64 j := by
    bv_omega
  have hhead : i + BitVec.ofNat 64 0 = i := BitVec.add_zero i
  simp only [State.evaluationsFrom, List.range_succ_eq_map, List.map_cons, List.map_map, Function.comp_def, hhead,
    hshift]

/-- With `n` indices left, `n` SEQNEXT commands yield their evaluations and exhaust the cursor, and no other cursor
moves. -/
theorem yields_to_universe {n : Nat} (hleft : s.cur[k].toNat + n = s.univ.toNat) :
    ∃ u, yields k n s = some (s.evaluationsFrom s.cur[k] n, u) ∧
      u.cur[k] = s.univ ∧ u.univ = s.univ ∧ ∀ j : Fin Config.numCursors, j ≠ k → u.cur[j] = s.cur[j] := by
  induction n generalizing s with
  | zero => exact ⟨s, rfl, BitVec.eq_of_toNat_eq hleft, rfl, fun _ _ => rfl⟩
  | succ n ih =>
    have hlt : s.cur[k] < s.univ := BitVec.lt_def.2 (by omega)
    have hcur : (s.yieldAt k).retire.cur[k] = s.cur[k] + 1 := s.yieldAt_cur_self k
    have hrest : (s.yieldAt k).retire.cur[k].toNat + n = s.univ.toNat := by
      rw [hcur, toNat_succ_of_lt hlt]
      omega
    obtain ⟨u, hyields, hend, huniv, hothers⟩ := ih hrest
    refine ⟨u, ?_, hend, huniv, fun j hj => (hothers j hj).trans (s.yieldAt_cur_of_ne hj)⟩
    rw [yields_succ (exec_seqnext_of_lt_univ hlt) rfl, hyields, hcur, s.evaluationsFrom_succ]
    rfl

end Sys2Proof.Machine

section
open Sys2Proof Sys2Proof.Machine

/-- Settles O29: the words by the decoder, the two completions by the check of ARG0 against UNIVERSE. -/
theorem seqstartSetsCursor : Obligations.SeqstartSetsCursor := by
  refine ⟨by decide, by decide, by decide, by decide, fun s k => ⟨fun hout => ?fault, fun hin => ?completes⟩⟩
  case fault => exact exec_seqstart_of_univ_lt hout
  case completes =>
    have hcur : (s.setCursor k s.arg0).retire.cur[k] = s.arg0 := s.setCursor_cur_self k s.arg0
    refine ⟨_, exec_seqstart_of_le_univ hin, rfl, hcur, fun j hj => s.setCursor_cur_of_ne s.arg0 hj, ?_⟩
    rw [State.exhausted_iff, hcur]
    rfl

/-- Settles O30: the words by the decoder, the two completions by the check of the cursor against UNIVERSE; a cursor
below UNIVERSE advances without wrap. -/
theorem seqnextYieldsAndAdvances : Obligations.SeqnextYieldsAndAdvances := by
  refine ⟨by decide, by decide, by decide, by decide, fun s k => ⟨fun hout => ?fault, fun hin => ?completes⟩⟩
  case fault => exact exec_seqnext_of_univ_le hout
  case completes =>
    have hcur : (s.yieldAt k).retire.cur[k] = s.cur[k] + 1 := s.yieldAt_cur_self k
    have hnat := toNat_succ_of_lt hin
    refine ⟨_, exec_seqnext_of_lt_univ hin, rfl, (congrArg BitVec.toNat hcur).trans hnat,
      fun j hj => s.yieldAt_cur_of_ne hj, ?_⟩
    rw [State.exhausted_iff, hcur, ← hnat]
    exact BitVec.toNat_inj.symm

/-- Settles O32: SEQSTART places the cursor at ARG0, and the run from there, by induction on the indices left, ends at
UNIVERSE. -/
theorem sequenceYieldsEveryIndex : Obligations.SequenceYieldsEveryIndex := by
  intro s k hin
  have hcur : (s.setCursor k s.arg0).retire.cur[k] = s.arg0 := s.setCursor_cur_self k s.arg0
  have hleft : (s.setCursor k s.arg0).retire.cur[k].toNat + (s.univ.toNat - s.arg0.toNat) = s.univ.toNat := by
    rw [hcur]
    exact Nat.add_sub_of_le (BitVec.le_def.1 hin)
  obtain ⟨u, hyields, hend, huniv, hothers⟩ := yields_to_universe hleft
  rw [hcur] at hyields
  exact ⟨_, u, exec_seqstart_of_le_univ hin, hyields, hend, (u.exhausted_iff k).2 (hend.trans huniv.symm),
    fun j hj => (hothers j hj).trans (s.setCursor_cur_of_ne s.arg0 hj)⟩

end

/-! # The system family (45_system.md): ACK, the return from a fault -/

namespace Sys2Proof.Machine

variable {s : State}

/-! ## ACK at the state of its write to CMD (45_system.md R250) -/

theorem exec_ack (s : State) : exec .ack s = execAck s := rfl

theorem exec_ack_of_idle (h : s.busy = false) : exec .ack s = .next s.acknowledge := by
  rcases execAck_next s with ⟨-, he⟩ | ⟨hb, -⟩
  · rw [exec_ack, he]
  · simp [h] at hb

theorem exec_ack_of_busy (h : s.busy = true) : exec .ack s = .next s.dropWrite := by
  rcases execAck_next s with ⟨hb, -⟩ | ⟨-, he⟩
  · simp [h] at hb
  · rw [exec_ack, he]

end Sys2Proof.Machine

section
open Sys2Proof Sys2Proof.Machine

/-- Settles O33: the word by the decoder; the five writes on an idle block are those of the return from a fault, and a
busy block only marks the dropped write. -/
theorem ackClearsFaultState : Obligations.AckClearsFaultState := by
  refine ⟨by decide, fun s => ⟨fun hidle => ?acknowledged, fun hbusy => ?dropped⟩⟩
  case acknowledged => exact exec_ack_of_idle hidle
  case dropped => exact exec_ack_of_busy hbusy

end

/-! # The exceptions family (60_exceptions.md): the interrupt line, the table of causes, and CTRL, whose value only a
read of CTRL shows -/

namespace Sys2Proof.Machine

variable {s : State} {i : Instr}

/-! ## The interrupt line (60_exceptions.md R270) -/

theorem State.irq_iff (s : State) :
    s.irq = true ↔ (s.done = true ∧ s.ieDone = true) ∨ (s.err = true ∧ s.ieErr = true) := by
  simp only [State.irq, Bool.or_eq_true, Bool.and_eq_true]

/-- Without DONE and without ERR the line is 0, whatever CTRL enables. -/
theorem State.irq_eq_false (hdone : s.done = false) (herr : s.err = false) : s.irq = false := by
  simp [State.irq, hdone, herr]

/-! ## The table of causes (60_exceptions.md R261) -/

/-- What a fault entry records and a completion without fault leaves, with the mark of a dropped write. -/
def State.faultRecord (s : State) : Bool × BitVec 4 × Word × Bool := (s.err, s.cause, s.ecmd, s.ovr)

/-- Command `i` completes as the table says: with the fault entry of the cause listed, or, with none listed, by retiring
writes of its own that leave the fault record. -/
def CompletesByTable (i : Instr) (s : State) : Prop :=
  (∃ c : Cause, expectedFault i s = some c.code ∧ exec i s = .next (s.enterFault c)) ∨
  (expectedFault i s = none ∧ ∃ w : State, exec i s = .next w.retire ∧ w.faultRecord = s.faultRecord)

/-- A command without an operand check never faults. -/
theorem completesByTable_of_unchecked {w : State} (htable : expectedFault i s = none)
    (hexec : exec i s = .next w.retire) (hrecord : w.faultRecord = s.faultRecord) : CompletesByTable i s :=
  .inr ⟨htable, w, hexec, hrecord⟩

/-- A command with one operand check faults exactly when the check fails. -/
theorem completesByTable_of_checked {bad : Prop} [Decidable bad] {c : Cause} {w : State}
    (htable : expectedFault i s = if bad then some c.code else none)
    (hfault : bad → exec i s = .next (s.enterFault c)) (hexec : ¬ bad → exec i s = .next w.retire)
    (hrecord : w.faultRecord = s.faultRecord) : CompletesByTable i s := by
  by_cases hbad : bad
  · exact .inl ⟨c, htable.trans (if_pos hbad), hfault hbad⟩
  · exact .inr ⟨htable.trans (if_neg hbad), w, hexec hbad, hrecord⟩

/-- Construction of universe 0 raises UZERO (42_construction.md R187). -/
theorem constructWith_of_eq_zero (nt : Bool) (h : s.arg0 = 0) :
    constructWith nt s = .next (s.enterFault .uzero) := by
  have hguard : (Operand.arg0.value s == 0) = true := by simp [h]
  rw [constructWith, hguard, guardFault_true]

theorem exec_constructNt (s : State) : exec .constructNt s = constructWith true s := rfl

theorem exec_completesByTable (s : State) (hi : i ≠ .ack) : CompletesByTable i s := by
  cases i with
  | ack => exact absurd rfl hi
  | isqrtf => exact completesByTable_of_unchecked rfl (exec_isqrtf s) rfl
  | isqrtc => exact completesByTable_of_unchecked rfl (exec_isqrtc s) rfl
  | isprime => exact completesByTable_of_unchecked rfl rfl rfl
  | ppred => exact completesByTable_of_unchecked rfl rfl rfl
  | selprime => exact completesByTable_of_unchecked rfl rfl rfl
  | selprimeNt => exact completesByTable_of_unchecked rfl rfl rfl
  | defaultInstance => exact completesByTable_of_unchecked rfl (exec_defaultInstance s) rfl
  | modsq => exact completesByTable_of_checked rfl exec_modsq_of_eq_zero exec_modsq_of_ne_zero rfl
  | construct =>
    exact completesByTable_of_checked rfl (constructWith_of_eq_zero false) (constructWith_of_ne_zero false) rfl
  | constructNt =>
    exact completesByTable_of_checked rfl (constructWith_of_eq_zero true) (constructWith_of_ne_zero true) rfl
  | permute =>
    exact completesByTable_of_checked rfl exec_permute_of_univ_le
      (fun h => exec_permute_of_lt_univ (BitVec.not_le.1 h)) rfl
  | eval =>
    exact completesByTable_of_checked rfl exec_eval_of_univ_le (fun h => exec_eval_of_lt_univ (BitVec.not_le.1 h)) rfl
  | seqstart k =>
    exact completesByTable_of_checked rfl exec_seqstart_of_univ_lt
      (fun h => exec_seqstart_of_le_univ (BitVec.not_lt.1 h)) rfl
  | seqnext k =>
    exact completesByTable_of_checked rfl exec_seqnext_of_univ_le
      (fun h => exec_seqnext_of_lt_univ (BitVec.not_le.1 h)) rfl

/-! ## Two states that differ in CTRL alone (60_exceptions.md R271) -/

/-- The state with other values in the two enables of CTRL. -/
def State.withCtrl (s : State) (a b : Bool) : State := { s with ieDone := a, ieErr := b }

/-- Where the first answer is a next state, the second is that state with some CTRL. -/
def EqButCtrl (r r' : Result) : Prop := ∀ t, r = .next t → ∃ a b, r' = .next (t.withCtrl a b)

theorem eqButCtrl_next (s : State) (a b : Bool) : EqButCtrl (.next s) (.next (s.withCtrl a b)) := by
  rintro _ ⟨⟩
  exact ⟨a, b, rfl⟩

/-- A state is itself with its own CTRL. -/
theorem eqButCtrl_refl (r : Result) : EqButCtrl r r := fun t h => ⟨t.ieDone, t.ieErr, h⟩

theorem eqButCtrl_fault (f : Fault) (r : Result) : EqButCtrl (.fault f) r := fun _ h => nomatch h

theorem EqButCtrl.answered {r r' : Result} (h : EqButCtrl r r') : EqButCtrl (answered r) (answered r') := by
  cases r with
  | next t =>
    obtain ⟨a, b, rfl⟩ := h t rfl
    exact eqButCtrl_next (t.setResp .ok) a b
  | fault f => exact eqButCtrl_fault f _
  | refused f => exact fun _ h => nomatch h

/-! ## The engine does not read CTRL -/

theorem guardFault_eqButCtrl (bad : Bool) (c : Cause) (s w : State) (a b : Bool) :
    EqButCtrl (guardFault bad c s (finish w)) (guardFault bad c (s.withCtrl a b) (finish (w.withCtrl a b))) := by
  cases bad
  · exact eqButCtrl_next w.retire a b
  · exact eqButCtrl_next (s.enterFault c) a b

theorem execAck_eqButCtrl (s : State) (a b : Bool) : EqButCtrl (exec .ack s) (exec .ack (s.withCtrl a b)) := by
  cases hb : s.busy with
  | false =>
    rw [exec_ack_of_idle hb, exec_ack_of_idle (s := s.withCtrl a b) hb]
    exact eqButCtrl_next s.acknowledge a b
  | true =>
    rw [exec_ack_of_busy hb, exec_ack_of_busy (s := s.withCtrl a b) hb]
    exact eqButCtrl_next s.dropWrite a b

/-- No operand, no check and no write of a command is CTRL (10_state.md R33). -/
theorem exec_eqButCtrl (i : Instr) (s : State) (a b : Bool) : EqButCtrl (exec i s) (exec i (s.withCtrl a b)) := by
  cases i with
  | modsq | construct | constructNt | permute | eval | seqstart | seqnext => exact guardFault_eqButCtrl _ _ s _ a b
  | isqrtf | isqrtc | isprime | ppred | selprime | selprimeNt | defaultInstance => exact eqButCtrl_next _ a b
  | ack => exact execAck_eqButCtrl s a b

/-- Which command completes is read from PEND alone. -/
theorem completePending_eqButCtrl (s : State) (a b : Bool) :
    EqButCtrl (completePending s) (completePending (s.withCtrl a b)) := by
  have hpend : (s.withCtrl a b).pend = s.pend := rfl
  unfold completePending
  rw [hpend]
  split
  · exact eqButCtrl_next (s.enterFault .illcmd) a b
  · exact eqButCtrl_next (s.enterFault .illcmd) a b
  · exact exec_eqButCtrl _ s a b

theorem engineTurn_eqButCtrl (s : State) (a b : Bool) : EqButCtrl (engineTurn s) (engineTurn (s.withCtrl a b)) := by
  rcases engineTurn_cases s with ⟨hb, h⟩ | ⟨hb, h⟩ <;>
    rcases engineTurn_cases (s.withCtrl a b) with ⟨hb', h'⟩ | ⟨hb', h'⟩
  · rw [h, h']
    exact eqButCtrl_next s a b
  · cases hb.symm.trans hb'
  · cases hb.symm.trans hb'
  · rw [h, h']
    exact completePending_eqButCtrl s a b

/-! ## The window shows CTRL at its own location only, and takes every write alike -/

variable {a b : Bool}

/-- Only CTRL's location shows CTRL (20_memory.md R63). -/
theorem regValue_withCtrl {l : Loc} (hl : l ≠ .ctrl) : regValue (s.withCtrl a b) l = regValue s l := by
  cases l with
  | ctrl => exact absurd rfl hl
  | _ => rfl

/-- CTRL is read by one access alone: 64 bits wide, at offset 0x08 (20_memory.md R61, R62). -/
theorem eq_ctrl_access {size : AccessSize} {off : Nat} (hadm : admitted size off = true)
    (hloc : locationAt off = .ctrl) : size = .b64 ∧ off = 0x08 := by
  have hslot : ∀ n < 16, locations.getD n .reserved = .ctrl → n = 1 := by decide
  simp only [admitted, inWindow, Config.windowBytes, Bool.and_eq_true, decide_eq_true_eq, beq_iff_eq] at hadm
  obtain ⟨⟨hwindow, haligned⟩, hsize⟩ := hadm
  have hdiv : off / 8 = 1 := hslot (off / 8) (by omega) hloc
  exact ⟨hsize, by omega⟩

theorem hostRead_refused {size : AccessSize} {off : Nat} (s : State) (hwindow : inWindow off = true)
    (hadm : admitted size off = false) : hostRead s size off = .next (s.setResp .error) := by
  simp [hostRead, hwindow, hadm]

theorem hostWrite_refused {size : AccessSize} {off : Nat} (s : State) (v : Word) (hwindow : inWindow off = true)
    (hadm : admitted size off = false) : hostWrite s size off v = .next (s.setResp .error) := by
  simp [hostWrite, hwindow, hadm]

theorem hostRead_eqButCtrl {size : AccessSize} {off : Nat} (hread : Turn.read size off ≠ .read .b64 0x08) :
    EqButCtrl (hostRead s size off) (hostRead (s.withCtrl a b) size off) := by
  rcases hostRead_cases s size off with ⟨-, h⟩ | ⟨hwindow, hadm, h⟩ | ⟨hadm, h⟩
  · exact h ▸ eqButCtrl_fault _ _
  · rw [h, hostRead_refused _ hwindow hadm]
    exact eqButCtrl_next (s.setResp .error) a b
  · have hloc : locationAt off ≠ .ctrl := fun hctrl => by
      obtain ⟨rfl, rfl⟩ := eq_ctrl_access hadm hctrl
      exact hread rfl
    rw [h, hostRead_admitted _ hadm, regValue_withCtrl hloc]
    exact eqButCtrl_next (s.setResp _) a b

theorem writeCommand_eqButCtrl (s : State) (v : Word) (a b : Bool) :
    EqButCtrl (writeCommand s v) (writeCommand (s.withCtrl a b) v) := by
  rcases writeCommand_cases s v with ⟨hb, h⟩ | ⟨hb, rfl, h⟩ | ⟨hb, hv, he, h⟩ | ⟨hb, hv, he, h⟩
  · rw [h, writeCommand_busy (s := s.withCtrl a b) hb]
    exact eqButCtrl_next s.dropWrite a b
  · rw [h, writeCommand_ack (s := s.withCtrl a b) hb]
    exact eqButCtrl_next s.acknowledge a b
  · rw [h, writeCommand_err (s := s.withCtrl a b) hb hv he]
    exact eqButCtrl_next s.dropWrite a b
  · rw [h, writeCommand_issue (s := s.withCtrl a b) hb hv he]
    exact eqButCtrl_next (s.issue v) a b

theorem writeOperand_eqButCtrl (s w : State) (a b : Bool) :
    EqButCtrl (writeOperand s w) (writeOperand (s.withCtrl a b) (w.withCtrl a b)) := by
  rcases writeOperand_cases s w with ⟨hb, h⟩ | ⟨hb, h⟩
  · rw [h, writeOperand_idle (s := s.withCtrl a b) hb]
    exact eqButCtrl_next w a b
  · rw [h, writeOperand_busy (s := s.withCtrl a b) hb]
    exact eqButCtrl_next s.dropWrite a b

/-- A write to CTRL sets both enables, so the two states agree after it. -/
theorem regWrite_eqButCtrl (s : State) (l : Loc) (v : Word) (a b : Bool) :
    EqButCtrl (regWrite s l v) (regWrite (s.withCtrl a b) l v) := by
  cases l with
  | ctrl => exact eqButCtrl_refl (.next (s.setCtrl v))
  | cmd => exact writeCommand_eqButCtrl s v a b
  | arg0 => exact writeOperand_eqButCtrl s (s.setArg0 v) a b
  | arg1 => exact writeOperand_eqButCtrl s (s.setArg1 v) a b
  | id | status | res | ecmd | univ | seed | prime | reserved | cur => exact eqButCtrl_next s a b

theorem hostWrite_eqButCtrl (s : State) (size : AccessSize) (off : Nat) (v : Word) (a b : Bool) :
    EqButCtrl (hostWrite s size off v) (hostWrite (s.withCtrl a b) size off v) := by
  rcases hostWrite_cases s size off v with ⟨-, h⟩ | ⟨hwindow, hadm, h⟩ | ⟨hadm, h⟩
  · exact h ▸ eqButCtrl_fault _ _
  · rw [h, hostWrite_refused _ v hwindow hadm]
    exact eqButCtrl_next (s.setResp .error) a b
  · rw [h, hostWrite_admitted _ hadm]
    exact (regWrite_eqButCtrl s (locationAt off) v a b).answered

/-! ## One step from two states that differ in CTRL alone -/

theorem takeTurn_eqButCtrl {turn : Turn} (s : State) (a b : Bool) (hread : turn ≠ .read .b64 0x08) :
    EqButCtrl (takeTurn turn s) (takeTurn turn (s.withCtrl a b)) := by
  cases turn with
  | read size off => exact hostRead_eqButCtrl hread
  | write size off v => exact hostWrite_eqButCtrl s size off v a b
  | engine => exact engineTurn_eqButCtrl s a b
  | reset => exact eqButCtrl_refl (.next (applyReset s))

theorem step_eqButCtrl (s : State) (a b : Bool) (hread : s.nextTurn ≠ .read .b64 0x08) :
    EqButCtrl (step s) (step (s.withCtrl a b)) := by
  rcases step_cases s with ⟨hs, h⟩ | ⟨turn, rest, hs, h⟩
  · have hstep : step (s.withCtrl a b) = engineTurn (s.withCtrl a b) := by
      simp [step, advance, State.withCtrl, hs]
    rw [h, hstep]
    exact engineTurn_eqButCtrl s a b
  · have hstep : step (s.withCtrl a b) = takeTurn turn ((s.setSchedule rest).withCtrl a b) :=
      step_of_schedule_eq (s := s.withCtrl a b) hs
    have hturn : s.nextTurn = turn := by simp [State.nextTurn, hs]
    rw [h, hstep]
    exact takeTurn_eqButCtrl _ a b (hturn ▸ hread)

/-- The one step that shows CTRL (20_memory.md R63). -/
theorem step_read_ctrl (s : State) {rest : List Turn} (hs : s.schedule = .read .b64 0x08 :: rest) :
    step s = .next ((s.setSchedule rest).setResp (.data s.ctrlWord)) :=
  (step_of_schedule_eq hs).trans (step_read s rest rfl)

theorem State.schedule_of_nextTurn_read {size : AccessSize} {off : Nat} (h : s.nextTurn = .read size off) :
    ∃ rest, s.schedule = .read size off :: rest := by
  cases hs : s.schedule with
  | nil => simp [State.nextTurn, hs] at h
  | cons turn rest => exact ⟨rest, by simpa [State.nextTurn, hs] using h⟩

end Sys2Proof.Machine

section
open Sys2Proof Sys2Proof.Machine

/-- Settles O43: every command completes by the table, one case per command, and the engine's turn on an illegal word is
the fault entry with the code of ILLCMD. -/
theorem faultTable : Obligations.FaultTable := by
  refine ⟨fun i s hi => ?table, fun s rest hb hill => ?illegal⟩
  case table =>
    rcases exec_completesByTable s hi with ⟨c, htable, hfault⟩ | ⟨htable, w, hexec, hrecord⟩
    · refine ⟨fun code hcode => ?_, fun hnone => ?_⟩
      · cases htable.symm.trans hcode
        exact hfault
      · cases htable.symm.trans hnone
    · refine ⟨fun code hcode => ?_, fun _ => ?_⟩
      · cases htable.symm.trans hcode
      · simp only [State.faultRecord, Prod.mk.injEq] at hrecord
        obtain ⟨herr, hcause, hecmd, hovr⟩ := hrecord
        exact ⟨w.retire, hexec, rfl, rfl, herr, hcause, hecmd, hovr⟩
  case illegal => exact step_engine_illegal (s := { s with schedule := .engine :: rest }) rfl hb hill

/-- Settles O54: a read of CTRL differs in its answer alone, and every other turn goes alike up to CTRL. -/
theorem controlHasNoEffect : Obligations.ControlHasNoEffect := by
  intro s t a b hstep
  by_cases hread : s.nextTurn = .read .b64 0x08
  · obtain ⟨rest, hs⟩ := State.schedule_of_nextTurn_read hread
    cases (step_read_ctrl s hs).symm.trans hstep
    exact ⟨_, step_read_ctrl (s.withCtrl a b) hs, rfl, absurd hread⟩
  · obtain ⟨a', b', hstep'⟩ := step_eqButCtrl s a b hread t hstep
    exact ⟨_, hstep', rfl, fun _ => rfl⟩

/-- Settles O42: the formula, and neither DONE nor ERR is set after ACK, reset and issue. -/
theorem interruptLine : Obligations.InterruptLine := by
  refine ⟨State.irq_iff, fun s t hb hack => ?ack, fun s t rest hstep => ?reset,
    fun s t v rest hb he hv hstep => ?issue⟩
  case ack =>
    cases (exec_ack_of_idle hb).symm.trans hack
    exact State.irq_eq_false rfl rfl
  case reset =>
    cases (step_schedule_cons s .reset rest).symm.trans hstep
    exact State.irq_eq_false rfl rfl
  case issue =>
    cases (step_issue hb he hv).symm.trans hstep
    exact State.irq_eq_false rfl he

end

/-! # The reset and hazards family (70_reset_and_hazards.md): what ends a pending command -/

namespace Sys2Proof.Machine

variable {s t : State}

/-! ## The host leaves a pending command pending (10_state.md R41, 20_memory.md R66) -/

/-- Every admitted write to a busy block answers a busy block: CTRL is set, an operand or CMD is dropped, and the rest is
ignored. -/
theorem regWrite_keeps_busy (l : Loc) (v : Word) (hb : s.busy = true) :
    ∃ w, regWrite s l v = .next w ∧ w.busy = true := by
  rcases regWrite_cases s l v with ⟨-, h⟩ | ⟨-, h⟩ | ⟨-, h⟩ | ⟨-, h⟩ | ⟨-, -, -, -, h⟩
  · exact ⟨_, h, hb⟩
  · exact ⟨_, h.trans (writeCommand_busy hb), hb⟩
  · exact ⟨_, h.trans (writeOperand_busy hb), hb⟩
  · exact ⟨_, h.trans (writeOperand_busy hb), hb⟩
  · exact ⟨_, h, hb⟩

theorem hostRead_busy {size : AccessSize} {off : Nat} (h : hostRead s size off = .next t) : t.busy = s.busy := by
  rcases hostRead_cases s size off with ⟨-, he⟩ | ⟨-, -, he⟩ | ⟨-, he⟩ <;> cases he.symm.trans h <;> rfl

theorem hostWrite_keeps_busy {size : AccessSize} {off : Nat} {v : Word} (hb : s.busy = true)
    (h : hostWrite s size off v = .next t) : t.busy = true := by
  rcases hostWrite_cases s size off v with ⟨-, he⟩ | ⟨-, -, he⟩ | ⟨-, he⟩
  · cases he.symm.trans h
  · cases he.symm.trans h
    exact hb
  · obtain ⟨w, hw, hbusy⟩ := regWrite_keeps_busy (locationAt off) v hb
    rw [hw, answered_next] at he
    cases he.symm.trans h
    exact hbusy

/-! ## The turns that end a pending command (70_reset_and_hazards.md R301) -/

theorem takeTurn_ends_pending {turn : Turn} (hb : s.busy = true) (h : takeTurn turn s = .next t)
    (hidle : t.busy = false) : turn = .reset ∨ turn = .engine := by
  cases turn with
  | read size off => cases hidle.symm.trans ((hostRead_busy h).trans hb)
  | write size off v => cases hidle.symm.trans (hostWrite_keeps_busy hb h)
  | engine => exact .inr rfl
  | reset => exact .inl rfl

/-- With nothing scheduled the turn is the engine's, else it is the schedule's first. -/
theorem step_ends_pending (hb : s.busy = true) (h : step s = .next t) (hidle : t.busy = false) :
    s.nextTurn = .reset ∨ s.nextTurn = .engine := by
  rcases step_cases s with ⟨hs, -⟩ | ⟨turn, rest, hs, he⟩
  · exact .inr (by simp [State.nextTurn, hs])
  · have hturn : s.nextTurn = turn := by simp [State.nextTurn, hs]
    rw [hturn]
    exact takeTurn_ends_pending (s := s.setSchedule rest) hb (he.symm.trans h) hidle

theorem step_reset (s : State) (rest : List Turn) :
    step { s with schedule := .reset :: rest } = .next (State.reset.setSchedule rest) := by
  rw [step_schedule_cons, takeTurn_reset]
  rfl

end Sys2Proof.Machine

section
open Sys2Proof.Machine

/-- Settles O2: the step of a reset turn from any state, and the turns which can end a pending command. -/
theorem resetFromEveryState : Obligations.ResetFromEveryState :=
  ⟨fun s rest => ⟨State.reset.setSchedule rest, step_reset s rest, rfl⟩,
    fun _ _ hb hstep hidle => step_ends_pending hb hstep hidle⟩

end

/-! # The decoder and the encoder (30_encoding.md): each is the other's inverse, and the decoder accepts exactly the
well-formed words -/

namespace Sys2Proof.Machine

/-! ## A must-be-zero mask of a format, read as zero fields (30_encoding.md R91 to R93) -/

variable {v : Word} {f : Format} {op : BitVec 8}

theorem field_eq_zero_of_bits {hi lo : Nat} (hle : lo ≤ hi) (h : ∀ b, lo ≤ b → b ≤ hi → v.getLsbD b = false) :
    field v hi lo = 0 := by
  have hzero : v.extractLsb' lo (hi - lo + 1) = 0#(hi - lo + 1) := by
    apply BitVec.eq_of_getLsbD_eq
    intro b hb
    simp [hb, h (lo + b) (Nat.le_add_right lo b) (by omega)]
  rw [field, hzero, BitVec.toNat_ofNat, Nat.zero_mod]

theorem getLsbD_of_mustBeZero (h : commandBits v &&& f.mustBeZero = 0) {b : Nat}
    (hb : f.mustBeZero.getLsbD b = true) : v.getLsbD b = false := by
  have hlt : b < 32 := BitVec.lt_of_getLsbD hb
  have hbit : ((commandBits v).getLsbD b && f.mustBeZero.getLsbD b) = false := by
    rw [← BitVec.getLsbD_and, h]
    exact BitVec.getLsbD_zero
  simpa only [hb, Bool.and_true, commandBits, BitVec.getLsbD_setWidth, decide_eq_true hlt, Bool.true_and] using hbit

/-- Every bit of the field lies in the mask, so the masked value has a zero field. -/
theorem field_eq_zero_of_mustBeZero (h : commandBits v &&& f.mustBeZero = 0) {hi lo : Nat} (hle : lo ≤ hi)
    (hmask : ∀ b < 32, lo ≤ b → b ≤ hi → f.mustBeZero.getLsbD b = true) (hhi : hi < 32) : field v hi lo = 0 :=
  field_eq_zero_of_bits hle fun b hlo hbhi => getLsbD_of_mustBeZero h (hmask b (by omega) hlo hbhi)

/-- Bits 31:12 are zero in every format. -/
theorem upper_fields_zero (h : commandBits v &&& f.mustBeZero = 0) : field v 31 12 = 0 :=
  field_eq_zero_of_mustBeZero h (by decide) (by cases f <;> decide) (by decide)

/-! ## Each format's decoder accepts a word whose reserved field is zero -/

theorem decodeN_accepts (h : commandBits v &&& Format.n.mustBeZero = 0) (i : Instr) : ∃ j, decodeN v i = .ok j :=
  ⟨i, if_neg (not_not.2 (field_eq_zero_of_mustBeZero h (by decide) (by decide) (by decide)))⟩

theorem decodeM_accepts (h : commandBits v &&& Format.m.mustBeZero = 0) (floor other : Instr) :
    ∃ j, decodeM v floor other = .ok j := by
  have hzero : field v 11 9 = 0 := field_eq_zero_of_mustBeZero h (by decide) (by decide) (by decide)
  rw [decodeM, if_neg (not_not.2 hzero)]
  split
  · exact ⟨floor, rfl⟩
  · exact ⟨other, rfl⟩

theorem decodeC_accepts (h : commandBits v &&& Format.c.mustBeZero = 0) (i : Fin Config.numCursors → Instr) :
    ∃ j, decodeC v i = .ok j :=
  ⟨i (cursorSelect v), if_neg (not_not.2 (field_eq_zero_of_mustBeZero h (by decide) (by decide) (by decide)))⟩

/-- The format's decoder, for each row of the table of opcodes and formats (30_encoding.md R95). -/
theorem decode_accepts (hhigh : field v 63 32 = 0) (hrow : (v.setWidth 8, f) ∈ opcodeFormats)
    (hzero : commandBits v &&& f.mustBeZero = 0) : ∃ i, decode v = .ok i := by
  have hupper := upper_fields_zero hzero
  have hopcode : field v 7 0 = (v.setWidth 8).toNat := by simp [field_eq_div_mod]
  unfold decode
  rw [if_neg (not_not.2 hhigh), if_neg (not_not.2 hupper), hopcode]
  simp only [opcodeFormats, List.mem_cons, Prod.mk.injEq, List.not_mem_nil, or_false] at hrow
  rcases hrow with ⟨hop, rfl⟩ | ⟨hop, rfl⟩ | ⟨hop, rfl⟩ | ⟨hop, rfl⟩ | ⟨hop, rfl⟩ | ⟨hop, rfl⟩ | ⟨hop, rfl⟩ |
    ⟨hop, rfl⟩ | ⟨hop, rfl⟩ | ⟨hop, rfl⟩ | ⟨hop, rfl⟩ | ⟨hop, rfl⟩ <;> rw [hop]
  · exact decodeM_accepts hzero .isqrtf .isqrtc
  · exact decodeN_accepts hzero .isprime
  · exact decodeN_accepts hzero .ppred
  · exact decodeM_accepts hzero .selprime .selprimeNt
  · exact decodeN_accepts hzero .modsq
  · exact decodeM_accepts hzero .construct .constructNt
  · exact decodeN_accepts hzero .defaultInstance
  · exact decodeN_accepts hzero .permute
  · exact decodeN_accepts hzero .eval
  · exact decodeC_accepts hzero .seqstart
  · exact decodeC_accepts hzero .seqnext
  · exact decodeN_accepts hzero .ack

theorem legal_wellFormed : ∀ p ∈ legalCommands, wellFormedWord p.1 = true := by decide

theorem decode_of_wellFormedWord (h : wellFormedWord v = true) : ∃ i, decode v = .ok i := by
  simp only [wellFormedWord, highHalfClear, opcodeAssigned, Bool.and_eq_true, beq_iff_eq] at h
  obtain ⟨⟨hhigh, hassigned⟩, hreserved⟩ := h
  obtain ⟨f, hlookup⟩ := Option.isSome_iff_exists.1 hassigned
  have hzero : commandBits v &&& f.mustBeZero = 0 := by simpa [reservedFieldsClear, hlookup] using hreserved
  obtain ⟨before, after, htable, -⟩ := List.lookup_eq_some_iff.1 hlookup
  exact decode_accepts (congrArg BitVec.toNat hhigh)
    (htable ▸ List.mem_append_right before List.mem_cons_self) hzero

theorem decode_encode (i : Instr) : decode (encode i) = .ok i :=
  decode_ok_iff_mem_legalCommands.2 (mem_legalCommands_encode i)

end Sys2Proof.Machine

section
open Sys2Proof Sys2Proof.Machine

/-- Settles O6: a command's encoding is its word in the opcode map, and a value that decodes is read back from its
fields, one case per row of the map. -/
theorem decodeEncodeInverse : Obligations.DecodeEncodeInverse :=
  ⟨fun i _ => decode_encode i, fun _ _ => eq_encode_of_decode_ok⟩

/-- Settles O9: the 21 legal words are well formed, and a well-formed word passes the checks of its format's decoder. -/
theorem decoderAcceptsWellFormedWords : Obligations.DecoderAcceptsWellFormedWords := by
  refine fun v => ⟨?wellFormed, decode_of_wellFormedWord⟩
  case wellFormed =>
    rintro ⟨i, h⟩
    exact legal_wellFormed (v, i) (decode_ok_iff_mem_legalCommands.1 h)

/-- Settles O8: each sample is a word of the opcode map with its command. -/
theorem decodingSamples : Obligations.DecodingSamples := by
  refine ⟨?_, ?_, ?_, ?_, ?_, ?_, ?_⟩ <;> exact decode_ok_iff_mem_legalCommands.2 (by decide)

end

/-! # What a step can do, said once: the writes of each command, and the effect of each turn -/

namespace Sys2Proof.Machine

variable {s t : State} {i : Instr} {turn : Turn}

/-! ## The writes of a command that completes without fault (10_state.md R33) -/

/-- The writes of CONSTRUCT and CONSTRUCT.NT (42_construction.md R187, R188). -/
def State.construct (s : State) (nt : Bool) : State :=
  (s.install s.arg0 (mix s.arg1) (narrow (selectPrime s.arg0.toNat nt).1)).setSelection (selectPrime s.arg0.toNat nt)

/-- The registers and flags with command `i`'s own writes, before BUSY and DONE follow. -/
def State.writes (s : State) : Instr → State
  | .isqrtf => s.setRes (narrow (isqrtFloor s.arg0.toNat))
  | .isqrtc => s.setRes (narrow (isqrtCeil s.arg0.toNat))
  | .isprime => s.setVerdict (isPrime s.arg0.toNat)
  | .ppred => s.setRes (narrow (primePred s.arg0.toNat))
  | .selprime => s.setSelection (selectPrime s.arg0.toNat false)
  | .selprimeNt => s.setSelection (selectPrime s.arg0.toNat true)
  | .modsq => s.setRes (modsqWord s.arg0 s.arg1)
  | .construct => s.construct false
  | .constructNt => s.construct true
  | .defaultInstance => s.install 1 0 0
  | .permute => s.setRes (permuteWord s.prime s.arg0)
  | .eval => s.setRes (evaluateWord s.univ s.seed s.prime s.arg0)
  | .seqstart k => s.setCursor k s.arg0
  | .seqnext k => s.yieldAt k
  | .ack => s

/-- A command whose operand check passes retires its writes. -/
theorem exec_of_no_fault (hi : i ≠ .ack) (h : expectedFault i s = none) : exec i s = .next (s.writes i).retire := by
  cases i with
  | isqrtf | isqrtc | isprime | ppred | selprime | selprimeNt | defaultInstance => rfl
  | modsq => exact exec_modsq_of_ne_zero (by simpa [expectedFault] using h)
  | construct => exact constructWith_of_ne_zero false (by simpa [expectedFault] using h)
  | constructNt => exact constructWith_of_ne_zero true (by simpa [expectedFault] using h)
  | permute => exact exec_permute_of_lt_univ (by simpa [expectedFault] using h)
  | eval => exact exec_eval_of_lt_univ (by simpa [expectedFault] using h)
  | seqstart k => exact exec_seqstart_of_le_univ (by simpa [expectedFault] using h)
  | seqnext k => exact exec_seqnext_of_lt_univ (by simpa [expectedFault] using h)
  | ack => exact absurd rfl hi

/-- The completion of any command but ACK: the fault entry of its failed check, or its writes. -/
theorem exec_fault_or_writes (s : State) (hi : i ≠ .ack) :
    (∃ c : Cause, expectedFault i s = some c.code ∧ exec i s = .next (s.enterFault c)) ∨
    (expectedFault i s = none ∧ exec i s = .next (s.writes i).retire) := by
  rcases exec_completesByTable s hi with hfault | ⟨hnone, -⟩
  · exact .inl hfault
  · exact .inr ⟨hnone, exec_of_no_fault hi hnone⟩

/-! What no command writes: the operands, the fault record, CTRL, PEND and the model's own fields. -/

@[simp] theorem State.writes_arg0 (s : State) (i : Instr) : (s.writes i).arg0 = s.arg0 := by cases i <;> rfl
@[simp] theorem State.writes_arg1 (s : State) (i : Instr) : (s.writes i).arg1 = s.arg1 := by cases i <;> rfl
@[simp] theorem State.writes_err (s : State) (i : Instr) : (s.writes i).err = s.err := by cases i <;> rfl
@[simp] theorem State.writes_ovr (s : State) (i : Instr) : (s.writes i).ovr = s.ovr := by cases i <;> rfl
@[simp] theorem State.writes_cause (s : State) (i : Instr) : (s.writes i).cause = s.cause := by cases i <;> rfl
@[simp] theorem State.writes_ecmd (s : State) (i : Instr) : (s.writes i).ecmd = s.ecmd := by cases i <;> rfl

/-! What a command outside the listed ones leaves (10_state.md R21, R23 to R25). -/

theorem State.writes_res (h : writesRes i = false) : (s.writes i).res = s.res := by
  cases i with
  | defaultInstance | seqstart | ack => rfl
  | _ => cases h

theorem State.writes_pf (h : i ≠ .isprime) : (s.writes i).pf = s.pf := by
  cases i with
  | isprime => exact absurd rfl h
  | _ => rfl

theorem State.writes_th (h : writesTh i = false) : (s.writes i).th = s.th := by
  cases i with
  | selprime | selprimeNt | construct | constructNt => cases h
  | _ => rfl

theorem State.writes_setup (h : writesInstance i = false) :
    (s.writes i).univ = s.univ ∧ (s.writes i).seed = s.seed ∧ (s.writes i).prime = s.prime := by
  cases i with
  | construct | constructNt | defaultInstance => cases h
  | _ => exact ⟨rfl, rfl, rfl⟩

theorem State.writes_cur {k : Fin Config.numCursors} (h : writesCursor i k = false) :
    (s.writes i).cur[k] = s.cur[k] := by
  cases i with
  | seqstart j =>
    have hne : k ≠ j := fun heq => by simp [writesCursor, heq] at h
    exact s.setCursor_cur_of_ne s.arg0 hne
  | seqnext j =>
    have hne : k ≠ j := fun heq => by simp [writesCursor, heq] at h
    exact s.yieldAt_cur_of_ne hne
  | construct | constructNt | defaultInstance => simp [writesCursor, writesInstance] at h
  | _ => rfl

/-! ## Where an admitted access goes (20_memory.md R61, R62) -/

/-- An admitted access is 64 bits wide, and its offset is the place of its location in the map. -/
theorem admitted_access {size : AccessSize} {off : Nat} (h : admitted size off = true) :
    size = .b64 ∧ off = 8 * locations.idxOf (locationAt off) := by
  have hplace : ∀ n < 16, locations.idxOf (locations.getD n .reserved) = n := by decide
  simp only [admitted, inWindow, Config.windowBytes, Bool.and_eq_true, decide_eq_true_eq, beq_iff_eq] at h
  obtain ⟨⟨hwindow, haligned⟩, hsize⟩ := h
  have hidx : locations.idxOf (locationAt off) = off / 8 := hplace (off / 8) (by omega)
  exact ⟨hsize, by omega⟩

/-! ## The effect of a turn (00_scope.md R6, R7) -/

/-- The write is one that 20_memory.md R66 drops. -/
def Dropped (s : State) (off : Nat) (v : Word) : Prop :=
  (s.busy = true ∧ off ∈ [0x18, 0x20, 0x28]) ∨ (s.err = true ∧ off = 0x18 ∧ v ≠ ackWord)

/-- Every way a turn can lead to a next state: the engine's first, then reset, then the host's. -/
inductive TurnEffect (s : State) : Turn → State → Prop where
  | idle : s.busy = false → TurnEffect s .engine s
  | illegal : s.busy = true → ((∃ e, decode s.pend = .error e) ∨ decode s.pend = .ok .ack) →
      TurnEffect s .engine (s.enterFault .illcmd)
  | fault (i : Instr) (c : Cause) : s.busy = true → decode s.pend = .ok i → expectedFault i s = some c.code →
      TurnEffect s .engine (s.enterFault c)
  | complete (i : Instr) : s.busy = true → decode s.pend = .ok i → i ≠ .ack → expectedFault i s = none →
      TurnEffect s .engine (s.writes i).retire
  | reset : TurnEffect s .reset (applyReset s)
  | answer (turn : Turn) (r : Response) : HostTurn turn → TurnEffect s turn (s.setResp r)
  | control (v : Word) : TurnEffect s (.write .b64 0x08 v) ((s.setCtrl v).setResp .ok)
  | drop (off : Nat) (v : Word) : Dropped s off v → TurnEffect s (.write .b64 off v) (s.dropWrite.setResp .ok)
  | acknowledge : s.busy = false → TurnEffect s (.write .b64 0x18 ackWord) (s.acknowledge.setResp .ok)
  | issue (v : Word) : s.busy = false → s.err = false → v ≠ ackWord →
      TurnEffect s (.write .b64 0x18 v) ((s.issue v).setResp .ok)
  | arg0 (v : Word) : s.busy = false → TurnEffect s (.write .b64 0x20 v) ((s.setArg0 v).setResp .ok)
  | arg1 (v : Word) : s.busy = false → TurnEffect s (.write .b64 0x28 v) ((s.setArg1 v).setResp .ok)

/-- A turn of the host outside the window (20_memory.md R62). -/
def OutsideTurn (turn : Turn) : Prop :=
  ∃ size off, 128 ≤ off ∧ (turn = .read size off ∨ ∃ v, turn = .write size off v)

/-- A turn stops outside the window, and otherwise has one of the effects. -/
def TurnAnswers (s : State) (turn : Turn) (r : Result) : Prop :=
  (r = .fault .outsideWindow ∧ OutsideTurn turn) ∨ ∃ t, r = .next t ∧ TurnEffect s turn t

theorem TurnEffect.answers (h : TurnEffect s turn t) : TurnAnswers s turn (.next t) := .inr ⟨t, rfl, h⟩

theorem inWindow_iff {off : Nat} : inWindow off = true ↔ off < 128 := by simp [inWindow, Config.windowBytes]

theorem inWindow_eq_false_iff {off : Nat} : inWindow off = false ↔ 128 ≤ off := by
  simp [inWindow, Config.windowBytes]

theorem inWindow_of_admitted {size : AccessSize} {off : Nat} (h : admitted size off = true) : off < 128 := by
  simp only [admitted, Bool.and_eq_true] at h
  obtain ⟨⟨hwindow, -⟩, -⟩ := h
  exact inWindow_iff.1 hwindow

theorem engineTurn_answers (s : State) : TurnAnswers s .engine (engineTurn s) := by
  rcases engineTurn_cases s with ⟨hidle, h⟩ | ⟨hbusy, h⟩
  · exact h ▸ (TurnEffect.idle hidle).answers
  · rcases completePending_cases s with ⟨hill, he⟩ | ⟨i, hi, hd, he⟩
    · rw [h, he]
      exact (TurnEffect.illegal hbusy hill).answers
    · rcases exec_fault_or_writes s hi with ⟨c, hf, hx⟩ | ⟨hn, hx⟩
      · rw [h, he, hx]
        exact (TurnEffect.fault i c hbusy hd hf).answers
      · rw [h, he, hx]
        exact (TurnEffect.complete i hbusy hd hi hn).answers

theorem hostRead_answers (s : State) (size : AccessSize) (off : Nat) :
    TurnAnswers s (.read size off) (hostRead s size off) := by
  rcases hostRead_cases s size off with ⟨hout, h⟩ | ⟨hin, -, h⟩ | ⟨hadm, h⟩
  · exact .inl ⟨h, size, off, inWindow_eq_false_iff.1 hout, .inl rfl⟩
  · exact h ▸ (TurnEffect.answer (.read size off) .error (inWindow_iff.1 hin)).answers
  · exact h ▸ (TurnEffect.answer (.read size off) _ (inWindow_of_admitted hadm)).answers

/-- A write admitted at a location has the effect of that location. -/
theorem regWrite_answers (s : State) {off : Nat} (v : Word) (hwindow : off < 128)
    (hoff : off = 8 * locations.idxOf (locationAt off)) :
    TurnAnswers s (.write .b64 off v) (answered (regWrite s (locationAt off) v)) := by
  rcases regWrite_cases s (locationAt off) v with ⟨hl, h⟩ | ⟨hl, h⟩ | ⟨hl, h⟩ | ⟨hl, h⟩ | ⟨-, -, -, -, h⟩
  · obtain rfl : off = 0x08 := hoff.trans (congrArg (8 * locations.idxOf ·) hl)
    exact h ▸ (TurnEffect.control v).answers
  · obtain rfl : off = 0x18 := hoff.trans (congrArg (8 * locations.idxOf ·) hl)
    rcases writeCommand_cases s v with ⟨hb, hw⟩ | ⟨hb, rfl, hw⟩ | ⟨-, hv, he, hw⟩ | ⟨hb, hv, he, hw⟩ <;> rw [h, hw]
    · exact (TurnEffect.drop _ v (.inl ⟨hb, by decide⟩)).answers
    · exact (TurnEffect.acknowledge hb).answers
    · exact (TurnEffect.drop _ v (.inr ⟨he, rfl, hv⟩)).answers
    · exact (TurnEffect.issue v hb he hv).answers
  · obtain rfl : off = 0x20 := hoff.trans (congrArg (8 * locations.idxOf ·) hl)
    rcases writeOperand_cases s (s.setArg0 v) with ⟨hb, hw⟩ | ⟨hb, hw⟩ <;> rw [h, hw]
    · exact (TurnEffect.arg0 v hb).answers
    · exact (TurnEffect.drop _ v (.inl ⟨hb, by decide⟩)).answers
  · obtain rfl : off = 0x28 := hoff.trans (congrArg (8 * locations.idxOf ·) hl)
    rcases writeOperand_cases s (s.setArg1 v) with ⟨hb, hw⟩ | ⟨hb, hw⟩ <;> rw [h, hw]
    · exact (TurnEffect.arg1 v hb).answers
    · exact (TurnEffect.drop _ v (.inl ⟨hb, by decide⟩)).answers
  · exact h ▸ (TurnEffect.answer (.write .b64 off v) .ok hwindow).answers

theorem hostWrite_answers (s : State) (size : AccessSize) (off : Nat) (v : Word) :
    TurnAnswers s (.write size off v) (hostWrite s size off v) := by
  rcases hostWrite_cases s size off v with ⟨hout, h⟩ | ⟨hin, -, h⟩ | ⟨hadm, h⟩
  · exact .inl ⟨h, size, off, inWindow_eq_false_iff.1 hout, .inr ⟨v, rfl⟩⟩
  · exact h ▸ (TurnEffect.answer (.write size off v) .error (inWindow_iff.1 hin)).answers
  · obtain ⟨rfl, hoff⟩ := admitted_access hadm
    exact h ▸ regWrite_answers s v (inWindow_of_admitted hadm) hoff

theorem takeTurn_answers (turn : Turn) (s : State) : TurnAnswers s turn (takeTurn turn s) := by
  cases turn with
  | read size off => exact hostRead_answers s size off
  | write size off v => exact hostWrite_answers s size off v
  | engine => exact engineTurn_answers s
  | reset => exact TurnEffect.reset.answers

/-! ## One step is the next turn, on the state without it -/

/-- The state with the next turn taken off the schedule. -/
def State.afterTurn (s : State) : State := s.setSchedule s.schedule.tail

theorem step_eq_takeTurn (s : State) : step s = takeTurn s.nextTurn s.afterTurn := by
  rcases step_cases s with ⟨hs, h⟩ | ⟨turn, rest, hs, h⟩
  · have hafter : s.afterTurn = s := by
      rw [State.afterTurn, hs]
      exact congrArg s.setSchedule hs.symm
    have hnext : s.nextTurn = .engine := by simp [State.nextTurn, hs]
    rw [h, hafter, hnext, takeTurn_engine]
  · simp [h, State.afterTurn, State.nextTurn, hs]

theorem step_answers (s : State) : TurnAnswers s.afterTurn s.nextTurn (step s) :=
  step_eq_takeTurn s ▸ takeTurn_answers s.nextTurn s.afterTurn

/-- What a step can do: the inversion from which the statements on all steps follow. -/
theorem step_effect (h : step s = .next t) : TurnEffect s.afterTurn s.nextTurn t := by
  rcases step_answers s with ⟨hstop, -⟩ | ⟨u, hu, heff⟩
  · cases hstop.symm.trans h
  · cases hu.symm.trans h
    exact heff

end Sys2Proof.Machine

/-! # The invariant of the reachable states: it holds at reset, and every effect of a turn keeps it -/

namespace Sys2Proof.Machine

variable {s t : State} {i : Instr} {turn : Turn}

/-! ## The prime a construction selects fits its register (42_construction.md R180) -/

theorem SelectedPrime.le {u p : Nat} (h : SelectedPrime u p) : p ≤ u := by
  rcases h with ⟨-, rfl⟩ | ⟨-, ⟨-, -, hle⟩, -⟩
  · exact u.zero_le
  · exact hle

theorem toNat_narrow_search (u : Word) : (narrow (search u.toNat)).toNat = search u.toNat := by
  rw [BitVec.toNat_ofNat]
  exact Nat.mod_eq_of_lt ((search_selectedPrime u.toNat).le.trans_lt u.isLt)

/-! ## The writes of a command keep the clauses on the registers (10_state.md R23, R24) -/

theorem State.construct_instanceOk (nt : Bool) (h : s.arg0 ≠ 0) : (s.construct nt).InstanceOk := by
  have hprime : (s.construct nt).prime = narrow (search s.arg0.toNat) :=
    congrArg narrow (selectPrime_fst_eq_search s.arg0.toNat nt)
  refine ⟨BitVec.toNat_pos_of_ne_zero h, ?_⟩
  rw [hprime, toNat_narrow_search]
  exact search_selectedPrime s.arg0.toNat

theorem State.InstanceOk.congr (h : s.InstanceOk) (huniv : t.univ = s.univ) (hprime : t.prime = s.prime) :
    t.InstanceOk :=
  ⟨huniv ▸ h.univ_pos, huniv ▸ hprime ▸ h.prime_selected⟩

theorem State.writes_instanceOk (h : s.InstanceOk) (hnone : expectedFault i s = none) : (s.writes i).InstanceOk := by
  cases i with
  | construct => exact s.construct_instanceOk false (by simpa [expectedFault] using hnone)
  | constructNt => exact s.construct_instanceOk true (by simpa [expectedFault] using hnone)
  | defaultInstance => exact ⟨Nat.le_refl 1, .inl ⟨Nat.le_succ 1, rfl⟩⟩
  | _ => exact h.congr rfl rfl

/-- A write to one cursor keeps the cursors in range when its value is. -/
theorem State.setCursor_cursorsOk (h : s.CursorsOk) {k : Fin Config.numCursors} {v : Word}
    (hv : v.toNat ≤ s.univ.toNat) : (s.setCursor k v).CursorsOk := by
  intro j
  by_cases hj : j = k
  · rw [hj, s.setCursor_cur_self k v]
    exact hv
  · rw [s.setCursor_cur_of_ne v hj]
    exact h j

theorem State.cursorsOk_of_cleared (h : s.cur = Vector.replicate Config.numCursors 0) : s.CursorsOk := by
  intro k
  have hzero : s.cur[k] = 0 := by
    rw [h]
    exact Vector.getElem_replicate k.isLt
  rw [hzero]
  exact Nat.zero_le _

theorem State.writes_cursorsOk (h : s.CursorsOk) (hnone : expectedFault i s = none) : (s.writes i).CursorsOk := by
  cases i with
  | construct | constructNt | defaultInstance => exact State.cursorsOk_of_cleared rfl
  | seqstart k =>
    have hin : s.arg0 ≤ s.univ := by simpa [expectedFault] using hnone
    exact s.setCursor_cursorsOk h (BitVec.le_def.1 hin)
  | seqnext k =>
    have hin : s.cur[k] < s.univ := by simpa [expectedFault] using hnone
    refine State.setCursor_cursorsOk (s := s.setRes _) h ?_
    rw [toNat_succ_of_lt hin]
    exact BitVec.lt_def.1 hin
  | _ => exact h

/-! ## The clauses on the status (10_state.md R27, R28, R32; 60_exceptions.md R265) -/

theorem State.enterFault_statusOk (s : State) (c : Cause) : (s.enterFault c).StatusOk where
  busy_not_done := nofun
  err_quiescent _ := ⟨rfl, rfl⟩
  err_cause _ := c.code_range
  no_err_clear := nofun
  pend_not_ack := nofun

/-- A pending command is not in the fault state, and its completion does not enter it without a fault entry. -/
theorem State.retire_statusOk (h : s.StatusOk) (hb : s.busy = true) (i : Instr) : (s.writes i).retire.StatusOk := by
  have herr : s.err = false := by
    cases hfault : s.err with
    | false => rfl
    | true =>
      obtain ⟨hidle, -⟩ := h.err_quiescent hfault
      cases hidle.symm.trans hb
  obtain ⟨hcause, hecmd⟩ := h.no_err_clear herr
  have herr' : (s.writes i).retire.err = false := (s.writes_err i).trans herr
  exact {
    busy_not_done := nofun
    err_quiescent := fun hfault => absurd (herr'.symm.trans hfault) Bool.false_ne_true
    err_cause := fun hfault => absurd (herr'.symm.trans hfault) Bool.false_ne_true
    no_err_clear := fun _ => ⟨(s.writes_cause i).trans hcause, (s.writes_ecmd i).trans hecmd⟩
    pend_not_ack := nofun }

theorem State.acknowledge_statusOk (hidle : s.busy = false) : s.acknowledge.StatusOk where
  busy_not_done _ := rfl
  err_quiescent := nofun
  err_cause := nofun
  no_err_clear _ := ⟨rfl, rfl⟩
  pend_not_ack hb := absurd (hidle.symm.trans hb) Bool.false_ne_true

theorem State.issue_statusOk {v : Word} (h : s.StatusOk) (herr : s.err = false) (hv : v ≠ ackWord) :
    (s.issue v).StatusOk where
  busy_not_done _ := rfl
  err_quiescent hfault := absurd (herr.symm.trans hfault) Bool.false_ne_true
  err_cause hfault := absurd (herr.symm.trans hfault) Bool.false_ne_true
  no_err_clear _ := h.no_err_clear herr
  pend_not_ack _ := hv

theorem State.reset_statusOk : State.reset.StatusOk where
  busy_not_done := nofun
  err_quiescent := nofun
  err_cause := nofun
  no_err_clear _ := ⟨rfl, rfl⟩
  pend_not_ack := nofun

theorem State.reset_inv : State.reset.Inv where
  instance_ok := ⟨Nat.le_refl 1, .inl ⟨Nat.le_succ 1, rfl⟩⟩
  cursors_ok := State.cursorsOk_of_cleared rfl
  status_ok := State.reset_statusOk

/-! ## Every effect of a turn keeps the invariant -/

/-- The fields the invariant speaks of. -/
def State.invFields (s : State) :
    (Word × Word × Vector Word Config.numCursors) × Bool × Bool × Bool × BitVec 4 × Word × Word :=
  ((s.univ, s.prime, s.cur), s.busy, s.done, s.err, s.cause, s.ecmd, s.pend)

theorem State.Inv.congr (h : s.Inv) (heq : t.invFields = s.invFields) : t.Inv := by
  simp only [State.invFields, Prod.mk.injEq] at heq
  obtain ⟨⟨huniv, hprime, hcur⟩, hbusy, hdone, herr, hcause, hecmd, hpend⟩ := heq
  obtain ⟨hinst, hcursors, hbd, heq, hec, hclear, hack⟩ := h
  refine ⟨hinst.congr huniv hprime, fun k => ?_, ?_⟩
  · rw [hcur, huniv]
    exact hcursors k
  · constructor <;> simpa only [hbusy, hdone, herr, hcause, hecmd, hpend]

/-- The clauses on the registers carry over, and those on the status are given. -/
theorem State.Inv.of_statusOk (h : s.Inv) (huniv : t.univ = s.univ) (hprime : t.prime = s.prime) (hcur : t.cur = s.cur)
    (hstatus : t.StatusOk) : t.Inv :=
  ⟨h.instance_ok.congr huniv hprime, fun k => hcur ▸ huniv ▸ h.cursors_ok k, hstatus⟩

theorem TurnEffect.keeps_inv (h : TurnEffect s turn t) (hs : s.Inv) : t.Inv := by
  cases h with
  | idle => exact hs
  | illegal | fault => exact hs.of_statusOk rfl rfl rfl (s.enterFault_statusOk _)
  | complete i hb hd hi hnone =>
    have hregs := State.writes_instanceOk hs.instance_ok hnone
    exact ⟨hregs.congr rfl rfl, State.writes_cursorsOk hs.cursors_ok hnone, State.retire_statusOk hs.status_ok hb i⟩
  | reset => exact State.reset_inv.congr rfl
  | answer | control | drop | arg0 | arg1 => exact hs.congr rfl
  | acknowledge hidle =>
    exact (hs.of_statusOk (t := s.acknowledge) rfl rfl rfl (State.acknowledge_statusOk hidle)).congr rfl
  | issue v hidle herr hv =>
    exact (hs.of_statusOk (t := s.issue v) rfl rfl rfl (State.issue_statusOk hs.status_ok herr hv)).congr rfl

end Sys2Proof.Machine

section
open Sys2Proof.Machine

/-- Settles O58: taking the next turn off the schedule keeps the invariant, and so does every effect of that turn. -/
theorem stepKeepsInvariant : Obligations.StepKeepsInvariant := by
  intro s t hs hstep
  have hafter : s.afterTurn.Inv := hs.congr rfl
  exact (step_effect hstep).keeps_inv hafter

/-- Settles O57: the reset values of the registers and of the status. -/
theorem invariantHoldsAtReset : Obligations.InvariantHoldsAtReset := State.reset_inv

end

/-! # What the steps change: the writers of each register, precise faults, and the steps that stop -/

namespace Sys2Proof.Machine

variable {s t : State} {i : Instr} {turn : Turn}

/-! ## The registers that only completions write (10_state.md R21, R23 to R25) -/

/-- The turn is the engine's and completes command `i`, whose writes are in the next state. -/
def CompletedBy (s : State) (turn : Turn) (t : State) (i : Instr) : Prop :=
  turn = .engine ∧ s.busy = true ∧ decode s.pend = .ok i ∧ t = (s.writes i).retire

/-- Apart from reset a turn leaves the engine's registers, or it completes a command. -/
theorem TurnEffect.engineOwned (h : TurnEffect s turn t) (hreset : turn ≠ .reset) :
    t.engineOwned = s.engineOwned ∨ ∃ i, CompletedBy s turn t i := by
  cases h with
  | complete i hb hd => exact .inr ⟨i, rfl, hb, hd, rfl⟩
  | reset => exact absurd rfl hreset
  | _ => exact .inl rfl

/-- A register of the engine that a step other than reset changes was written by the completion of a command. -/
theorem step_engineOwned (h : step s = .next t) (hreset : s.nextTurn ≠ .reset) :
    t.engineOwned = s.engineOwned ∨ ∃ i, s.Completes i ∧ t = (s.afterTurn.writes i).retire := by
  rcases (step_effect h).engineOwned hreset with hsame | ⟨i, hturn, hb, hd, ht⟩
  · exact .inl hsame
  · exact .inr ⟨i, ⟨hturn, hb, hd⟩, ht⟩

/-! ## The operands, which the host alone writes (10_state.md R21, 20_memory.md R64) -/

theorem TurnEffect.operands_written (h : TurnEffect s turn t) (hreset : turn ≠ .reset) :
    (t.arg0 ≠ s.arg0 → s.busy = false ∧ turn = .write .b64 0x20 t.arg0) ∧
    (t.arg1 ≠ s.arg1 → s.busy = false ∧ turn = .write .b64 0x28 t.arg1) := by
  cases h with
  | arg0 v hidle => exact ⟨fun _ => ⟨hidle, rfl⟩, fun hne => absurd rfl hne⟩
  | arg1 v hidle => exact ⟨fun hne => absurd rfl hne, fun _ => ⟨hidle, rfl⟩⟩
  | complete i => exact ⟨fun hne => absurd (s.writes_arg0 i) hne, fun hne => absurd (s.writes_arg1 i) hne⟩
  | reset => exact absurd rfl hreset
  | _ => exact ⟨fun hne => absurd rfl hne, fun hne => absurd rfl hne⟩

/-! ## OVR (10_state.md R28, 20_memory.md R66) -/

theorem TurnEffect.ovr_raised (h : TurnEffect s turn t) (hs : s.ovr = false) (ht : t.ovr = true) :
    ∃ off v, turn = .write .b64 off v ∧ Dropped s off v := by
  cases h with
  | drop off v hdropped => exact ⟨off, v, rfl, hdropped⟩
  | complete i => cases hs.symm.trans ((s.writes_ovr i).symm.trans ht)
  | reset | acknowledge => cases ht
  | _ => cases hs.symm.trans ht

theorem TurnEffect.ovr_cleared (h : TurnEffect s turn t) (hs : s.ovr = true) (ht : t.ovr = false) :
    turn = .reset ∨ (s.busy = false ∧ turn = .write .b64 0x18 ackWord) := by
  cases h with
  | reset => exact .inl rfl
  | acknowledge hidle => exact .inr ⟨hidle, rfl⟩
  | complete i => cases ht.symm.trans ((s.writes_ovr i).trans hs)
  | drop => cases ht
  | _ => cases ht.symm.trans hs

/-! ## The engine's turn on a pending command (10_state.md R41, 60_exceptions.md R262, R263) -/

theorem TurnEffect.fault_precise (h : TurnEffect s .engine t) (hs : s.err = false) (ht : t.err = true) :
    ∃ c : Cause, t = s.enterFault c := by
  cases h with
  | illegal => exact ⟨.illcmd, rfl⟩
  | fault i c => exact ⟨c, rfl⟩
  | complete i => cases hs.symm.trans ((s.writes_err i).symm.trans ht)
  | idle => cases hs.symm.trans ht
  | answer _ _ hhost => exact hhost.elim

theorem TurnEffect.ends_pending (h : TurnEffect s .engine t) (hb : s.busy = true) :
    t.busy = false ∧ (t.done = true ∨ (t.done = false ∧ t.err = true ∧ t.ecmd = s.pend)) := by
  cases h with
  | illegal | fault => exact ⟨rfl, .inr ⟨rfl, rfl, rfl⟩⟩
  | complete i => exact ⟨rfl, .inl rfl⟩
  | idle hidle => cases hidle.symm.trans hb
  | answer _ _ hhost => exact hhost.elim

theorem TurnEffect.illegal_fault (h : TurnEffect s .engine t) (hb : s.busy = true) (hill : IllegalWord s.pend) :
    t = s.enterFault .illcmd := by
  obtain ⟨e, herr⟩ := hill
  cases h with
  | illegal => rfl
  | fault i c _ hd => cases herr.symm.trans hd
  | complete i _ hd => cases herr.symm.trans hd
  | idle hidle => cases hidle.symm.trans hb
  | answer _ _ hhost => exact hhost.elim

theorem not_outsideTurn_engine : ¬ OutsideTurn .engine := by
  rintro ⟨size, off, -, h | ⟨v, h⟩⟩ <;> cases h

/-! ## What a turn leaves in the fault state, and while a command stays pending -/

/-- The state with what a host access can still change in another, while a command is pending: OVR, CTRL and the
answer. -/
def State.withHostOf (t s : State) : State :=
  { t with ovr := s.ovr, ieDone := s.ieDone, ieErr := s.ieErr, resp := s.resp }

/-- In the fault state a turn other than reset and the write of the ACK word issues and completes nothing
(60_exceptions.md R265). -/
theorem TurnEffect.fault_state (h : TurnEffect s turn t) (herr : s.err = true) (hidle : s.busy = false)
    (hreset : turn ≠ .reset) (hack : turn ≠ .write .b64 0x18 ackWord) :
    { t.withHostOf s with arg0 := s.arg0, arg1 := s.arg1 } = s := by
  cases h with
  | reset => exact absurd rfl hreset
  | acknowledge => exact absurd rfl hack
  | issue v _ hclear => cases hclear.symm.trans herr
  | illegal hb | fault _ _ hb | complete _ hb => cases hidle.symm.trans hb
  | _ =>
    cases s
    rfl

/-- A turn after which the command is still pending changes OVR, CTRL and the answer alone (20_memory.md R75). -/
theorem TurnEffect.pending_frozen (h : TurnEffect s turn t) (hb : s.busy = true) (hbt : t.busy = true) :
    t.withHostOf s = s := by
  cases h with
  | illegal | fault | complete | reset => cases hbt
  | idle hidle | acknowledge hidle | issue v hidle | arg0 v hidle | arg1 v hidle =>
    cases hidle.symm.trans hb
  | _ =>
    cases s
    rfl

/-! ## The step that runs the decoded command (10_state.md R41) -/

theorem completePending_of_decode (hd : decode s.pend = .ok i) (hi : i ≠ .ack) : completePending s = exec i s := by
  rcases completePending_cases s with ⟨⟨e, he⟩ | hack, -⟩ | ⟨j, -, hj, h⟩
  · cases he.symm.trans hd
  · cases hack.symm.trans hd
    exact absurd rfl hi
  · cases hj.symm.trans hd
    exact h

theorem engineTurn_of_decode (hb : s.busy = true) (hd : decode s.pend = .ok i) (hi : i ≠ .ack) :
    engineTurn s = exec i s := by
  rcases engineTurn_cases s with ⟨hidle, -⟩ | ⟨-, h⟩
  · cases hidle.symm.trans hb
  · rw [h, completePending_of_decode hd hi]

theorem step_engine_of_decode {rest : List Turn} (hb : s.busy = true) (hd : decode s.pend = .ok i) (hi : i ≠ .ack) :
    step { s with schedule := .engine :: rest } = exec i (s.setSchedule rest) := by
  rw [step_schedule_cons, takeTurn_engine]
  exact engineTurn_of_decode (s := s.setSchedule rest) hb hd hi

theorem encode_ne_ackWord (hi : i ≠ .ack) : encode i ≠ ackWord := by
  intro h
  have hd := (congrArg decode h).symm.trans (decode_encode i)
  exact hi (Except.ok.inj (hd.symm.trans (decode_encode .ack)))

theorem runSteps_one (s : State) : runSteps 1 s = step s := by
  rw [runSteps]
  cases step s <;> rfl

/-! ## Refused and outside accesses (20_memory.md R62), and the byte lanes (R69) -/

variable {size : AccessSize} {off : Nat}

theorem admitted_eq_false (h : size ≠ .b64 ∨ off % 8 ≠ 0) : admitted size off = false := by
  rcases h with hsize | haligned
  · simp [admitted, hsize]
  · simp [admitted, haligned]

theorem hostRead_outside (s : State) (size : AccessSize) (h : 128 ≤ off) :
    hostRead s size off = .fault .outsideWindow := by
  simp [hostRead, inWindow_eq_false_iff.2 h]

theorem hostWrite_outside (s : State) (size : AccessSize) (v : Word) (h : 128 ≤ off) :
    hostWrite s size off v = .fault .outsideWindow := by
  simp [hostWrite, inWindow_eq_false_iff.2 h]

theorem getLsbD_laneByte (v : Word) (n : Nat) {b : Nat} (hb : b < 8) :
    (laneByte v n).getLsbD b = v.getLsbD (8 * n + b) := by
  rw [laneByte, BitVec.getLsbD_extractLsb', decide_eq_true hb, Bool.true_and]

/-- The eight bytes from an aligned offset on are the lanes of its location. -/
theorem windowByte_lane (s : State) {n : Nat} (haligned : off % 8 = 0) (hn : n < 8) :
    windowByte s (off + n) = laneByte (regValue s (locationAt off)) n := by
  have hplace : (off + n) / 8 = off / 8 := by omega
  have hlane : (off + n) % 8 = n := by omega
  rw [windowByte, locationAt, hplace, hlane, locationAt]

theorem admitted_of_aligned (hwindow : off < 128) (haligned : off % 8 = 0) : admitted .b64 off = true := by
  simp [admitted, inWindow_iff.2 hwindow, haligned]

end Sys2Proof.Machine

section
open Sys2Proof Sys2Proof.Machine

/-- Settles O44: the engine's turn that raises ERR is a fault entry, whose code is its cause's. -/
theorem faultsArePrecise : Obligations.FaultsArePrecise := by
  intro s t hturn hb hs hstep ht
  have heff := step_effect hstep
  rw [hturn] at heff
  obtain ⟨c, rfl⟩ := heff.fault_precise hs ht
  obtain ⟨hlow, hhigh⟩ := c.code_range
  exact ⟨c.code, hlow, hhigh, rfl⟩

/-- Settles O45: the turn leaves the registers named, and the schedule is the model's own field. -/
theorem faultStateIsQuiescent : Obligations.FaultStateIsQuiescent := by
  intro s t herr hidle hstep hreset hack
  exact congrArg (·.setSchedule s.schedule) ((step_effect hstep).fault_state herr hidle hreset hack)

/-- Settles O46: the one turn that raises OVR and the two that clear it. -/
theorem overrunIsSticky : Obligations.OverrunIsSticky :=
  fun _ _ hstep => ⟨(step_effect hstep).ovr_raised, (step_effect hstep).ovr_cleared⟩

/-- Settles O47: a changed register was written by a completion, and a command outside the listed ones does not write
it. -/
theorem instanceAndCursorWriters : Obligations.InstanceAndCursorWriters := by
  intro s t hstep hreset
  rcases step_engineOwned hstep hreset with hsame | ⟨i, hcompletes, rfl⟩
  · obtain ⟨-, huniv, hseed, hprime, hcur, -, -⟩ := State.engineOwned_eq_iff.1 hsame
    refine ⟨fun hne => ?_, fun k hne => absurd (by rw [hcur]) hne⟩
    rcases hne with hne | hne | hne
    · exact absurd huniv hne
    · exact absurd hseed hne
    · exact absurd hprime hne
  · refine ⟨fun hne => ⟨i, hcompletes, ?_⟩, fun k hne => ⟨i, hcompletes, ?_⟩⟩
    · by_contra hnot
      obtain ⟨huniv, hseed, hprime⟩ := State.writes_setup (s := s.afterTurn) (Bool.eq_false_of_not_eq_true hnot)
      rcases hne with hne | hne | hne
      · exact hne huniv
      · exact hne hseed
      · exact hne hprime
    · by_contra hnot
      exact hne (State.writes_cur (Bool.eq_false_of_not_eq_true hnot))

/-- Settles O48: as for the registers of O47, with RES, PF and TH. -/
theorem resultAndFlagWriters : Obligations.ResultAndFlagWriters := by
  intro s t hstep hreset
  rcases step_engineOwned hstep hreset with hsame | ⟨i, hcompletes, rfl⟩
  · obtain ⟨hres, -, -, -, -, hpf, hth⟩ := State.engineOwned_eq_iff.1 hsame
    exact ⟨fun hne => absurd hres hne, fun hne => absurd hpf hne, fun hne => absurd hth hne⟩
  · refine ⟨fun hne => ⟨i, hcompletes, ?_⟩, fun hne => ?_, fun hne => ⟨i, hcompletes, ?_⟩⟩
    · by_contra hnot
      exact hne (State.writes_res (Bool.eq_false_of_not_eq_true hnot))
    · by_cases hi : i = .isprime
      · exact hi ▸ hcompletes
      · exact absurd (State.writes_pf hi) hne
    · by_contra hnot
      exact hne (State.writes_th (Bool.eq_false_of_not_eq_true hnot))

/-- Settles O49: the one turn that writes each operand. -/
theorem operandsWrittenByHostOnly : Obligations.OperandsWrittenByHostOnly :=
  fun _ _ hstep hreset => (step_effect hstep).operands_written hreset

/-- Settles O51: the turn leaves a pending command as it is, and the schedule is the model's own field. -/
theorem pendingCommandIsFrozen : Obligations.PendingCommandIsFrozen := by
  intro s t hb hstep hbt
  exact congrArg (·.setSchedule s.schedule) ((step_effect hstep).pending_frozen hb hbt)

/-- Settles O55: a step answers a next state, or its turn is outside the window. -/
theorem onlyOutsideAccessesStop : Obligations.OnlyOutsideAccessesStop := by
  intro s
  rcases step_answers s with hstop | ⟨t, hstep, -⟩
  · exact .inr hstop
  · exact .inl ⟨t, hstep⟩

/-- Settles O56: the engine's turn has an effect, and on a busy block each of its effects ends the pending command. -/
theorem pendingCommandCompletes : Obligations.PendingCommandCompletes := by
  intro s hb hturn
  have hanswers := step_answers s
  rw [hturn] at hanswers
  obtain ⟨t, hstep, heff⟩ := hanswers.resolve_left fun h => not_outsideTurn_engine h.2
  obtain ⟨hidle, hends⟩ := heff.ends_pending hb
  exact ⟨t, hstep, hidle, hends, heff.illegal_fault hb⟩

/-- Settles O3: the engine's turn with nothing scheduled and as the first scheduled turn, and the write of the ACK
word. -/
theorem stepRunsTheDecodedCommand : Obligations.StepRunsTheDecodedCommand := by
  refine ⟨fun s i _ hb hd hi => ⟨fun hs => ?unscheduled, fun rest hs => ?scheduled⟩, fun s rest hidle hs => ?ack⟩
  case unscheduled =>
    have hturn : step s = engineTurn s := by simp [step, advance, hs]
    rw [hturn, engineTurn_of_decode hb hd hi]
  case scheduled =>
    rw [step_of_schedule_eq hs]
    exact step_engine_of_decode hb hd hi
  case ack =>
    refine ⟨by decide, (s.setSchedule rest).acknowledge, exec_ack_of_idle (s := s.setSchedule rest) hidle, ?_⟩
    rw [step_of_schedule_eq hs]
    exact step_write_cmd (writeCommand_ack (s := s.setSchedule rest) hidle)

/-- Settles O4: the write of a command's word is its issue, and the engine's turn after it runs the decoded command. -/
theorem issueThenComplete : Obligations.IssueThenComplete := by
  intro s i hi hidle herr
  have hissue := step_issue (rest := [.engine]) hidle herr (encode_ne_ackWord hi)
  rw [runSteps_succ hissue, runSteps_one]
  exact step_engine_of_decode (s := ((s.setSchedule []).issue (encode i)).setResp .ok) rfl (decode_encode i) hi

/-- Settles O39: the window refuses an access that is narrow or misaligned, and stops at one outside. -/
theorem refusedAccessesChangeNothing : Obligations.RefusedAccessesChangeNothing := by
  intro s rest size off v
  refine ⟨fun hin hbad => ?refused, fun hout => ?outside⟩
  case refused =>
    have hadm := admitted_eq_false hbad
    have hwindow := inWindow_iff.2 hin
    exact ⟨hostRead_refused (s.setSchedule rest) hwindow hadm, hostWrite_refused (s.setSchedule rest) v hwindow hadm⟩
  case outside =>
    exact ⟨hostRead_outside (s.setSchedule rest) size hout, hostWrite_outside (s.setSchedule rest) size v hout⟩

/-- Settles O40: the read answers the location's value, and each byte of the window is a lane of it. -/
theorem windowIsLittleEndian : Obligations.WindowIsLittleEndian := by
  intro s off n hwindow haligned hn rest
  refine ⟨_, regValue s (locationAt off), step_read s rest (admitted_of_aligned hwindow haligned), rfl, fun b hb => ?_⟩
  rw [windowByte_lane s haligned hn, getLsbD_laneByte _ n hb]

end

/-! # What a completion depends on: the listed operands, not the host's accesses before it, and not PEND while idle -/

namespace Sys2Proof.Machine

variable {s s' t u : State} {i : Instr}

/-! ## The fault of a failed check -/

/-- The fault entry records the code of its cause and nothing more of it. -/
theorem State.enterFault_of_code_eq {c c' : Cause} (h : c.code = c'.code) : s.enterFault c = s.enterFault c' := by
  rw [State.enterFault, h]
  rfl

theorem exec_of_fault {c : Cause} (hi : i ≠ .ack) (h : expectedFault i s = some c.code) :
    exec i s = .next (s.enterFault c) := by
  rcases exec_fault_or_writes s hi with ⟨c', hc', hx⟩ | ⟨hnone, -⟩
  · rw [hx, State.enterFault_of_code_eq (Option.some.inj (hc'.symm.trans h))]
  · cases hnone.symm.trans h

/-! ## The operands of 10_state.md R33 -/

/-- Two states agree on the operands listed for a command. -/
def AgreeOn (i : Instr) (s s' : State) : Prop := ∀ o ∈ reads i, o.word s = o.word s'

/-- Two states hold the same values in what command `i` writes. -/
structure SameWrites (i : Instr) (s s' : State) : Prop where
  res : writesRes i = true → s.res = s'.res
  setup : writesInstance i = true → s.univ = s'.univ ∧ s.seed = s'.seed ∧ s.prime = s'.prime
  cursor : ∀ k, writesCursor i k = true → s.cur[k] = s'.cur[k]
  pf : i = .isprime → s.pf = s'.pf
  th : writesTh i = true → s.th = s'.th

/-- A command that writes RES, PF and TH alone. -/
theorem sameWrites_of_flags (hsetup : writesInstance i = false) (hcursor : ∀ k, writesCursor i k = false)
    (hres : s.res = s'.res) (hpf : i = .isprime → s.pf = s'.pf) (hth : writesTh i = true → s.th = s'.th) :
    SameWrites i s s' where
  res _ := hres
  setup h := absurd (hsetup.symm.trans h) Bool.false_ne_true
  cursor k h := absurd ((hcursor k).symm.trans h) Bool.false_ne_true
  pf := hpf
  th := hth

/-- A construction, with the same operands. -/
theorem sameWrites_construct (nt : Bool) (hi : i ≠ .isprime) (harg0 : s.arg0 = s'.arg0) (harg1 : s.arg1 = s'.arg1) :
    SameWrites i (s.construct nt) (s'.construct nt) := by
  have hprime : narrow (selectPrime s.arg0.toNat nt).1 = narrow (selectPrime s'.arg0.toNat nt).1 := by rw [harg0]
  have hhit : (selectPrime s.arg0.toNat nt).2 = (selectPrime s'.arg0.toNat nt).2 := by rw [harg0]
  exact ⟨fun _ => hprime, fun _ => ⟨harg0, congrArg mix harg1, hprime⟩, fun _ _ => rfl, fun h => absurd h hi,
    fun _ => hhit⟩

/-- The writes of a command are a function of its operands: one case per row of the table. -/
theorem AgreeOn.sameWrites (h : AgreeOn i s s') : SameWrites i (s.writes i) (s'.writes i) := by
  cases i with
  | isqrtf | isqrtc | isprime | ppred | selprime | selprimeNt =>
    have harg0 : s.arg0 = s'.arg0 := h .arg0 (by decide)
    exact sameWrites_of_flags rfl (fun _ => rfl)
      (by simp [State.writes, State.setVerdict, State.setSelection, harg0])
      (by simp [State.writes, State.setVerdict, harg0])
      (by simp [State.writes, writesTh, State.setSelection, harg0])
  | modsq =>
    have harg0 : s.arg0 = s'.arg0 := h .arg0 (by decide)
    have harg1 : s.arg1 = s'.arg1 := h .arg1 (by decide)
    exact sameWrites_of_flags rfl (fun _ => rfl) (congrArg₂ modsqWord harg0 harg1) nofun nofun
  | construct => exact sameWrites_construct false nofun (h .arg0 (by decide)) (h .arg1 (by decide))
  | constructNt => exact sameWrites_construct true nofun (h .arg0 (by decide)) (h .arg1 (by decide))
  | defaultInstance => exact ⟨nofun, fun _ => ⟨rfl, rfl, rfl⟩, fun _ _ => rfl, nofun, nofun⟩
  | permute =>
    have harg0 : s.arg0 = s'.arg0 := h .arg0 (by decide)
    have hprime : s.prime = s'.prime := h .prime (by decide)
    exact sameWrites_of_flags rfl (fun _ => rfl) (congrArg₂ permuteWord hprime harg0) nofun nofun
  | eval =>
    have harg0 : s.arg0 = s'.arg0 := h .arg0 (by decide)
    have huniv : s.univ = s'.univ := h .univ (by decide)
    have hseed : s.seed = s'.seed := h .seed (by decide)
    have hprime : s.prime = s'.prime := h .prime (by decide)
    exact sameWrites_of_flags rfl (fun _ => rfl) (by simp [State.writes, harg0, huniv, hseed, hprime]) nofun nofun
  | seqstart k =>
    have harg0 : s.arg0 = s'.arg0 := h .arg0 (by simp [reads])
    refine ⟨nofun, nofun, fun j hj => ?_, nofun, nofun⟩
    obtain rfl : k = j := by simpa [writesCursor, writesInstance] using hj
    exact (s.setCursor_cur_self k _).trans (harg0.trans (s'.setCursor_cur_self k _).symm)
  | seqnext k =>
    have hcur : s.cur[k] = s'.cur[k] := h (.cursor k) (by simp [reads])
    have huniv : s.univ = s'.univ := h .univ (by simp [reads])
    have hseed : s.seed = s'.seed := h .seed (by simp [reads])
    have hprime : s.prime = s'.prime := h .prime (by simp [reads])
    refine ⟨fun _ => ?_, nofun, fun j hj => ?_, nofun, nofun⟩
    · have hres (r : State) : (r.writes (.seqnext k)).res = evaluateWord r.univ r.seed r.prime r.cur[k] := rfl
      rw [hres, hres, hcur, huniv, hseed, hprime]
    · obtain rfl : k = j := by simpa [writesCursor, writesInstance] using hj
      exact (s.yieldAt_cur_self k).trans ((congrArg (· + 1) hcur).trans (s'.yieldAt_cur_self k).symm)
  | ack => exact ⟨nofun, nofun, nofun, nofun, nofun⟩

/-- Whether a command faults, and with which code, is a function of its operands. -/
theorem AgreeOn.expectedFault_eq (h : AgreeOn i s s') : expectedFault i s = expectedFault i s' := by
  cases i with
  | modsq =>
    have harg1 : s.arg1 = s'.arg1 := h .arg1 (by decide)
    rw [expectedFault, expectedFault, harg1]
  | construct | constructNt =>
    have harg0 : s.arg0 = s'.arg0 := h .arg0 (by decide)
    rw [expectedFault, expectedFault, harg0]
  | permute | eval =>
    have harg0 : s.arg0 = s'.arg0 := h .arg0 (by decide)
    have huniv : s.univ = s'.univ := h .univ (by decide)
    rw [expectedFault, expectedFault, harg0, huniv]
  | seqstart k =>
    have harg0 : s.arg0 = s'.arg0 := h .arg0 (by simp [reads])
    have huniv : s.univ = s'.univ := h .univ (by simp [reads])
    rw [expectedFault, expectedFault, harg0, huniv]
  | seqnext k =>
    have hcur : s.cur[k] = s'.cur[k] := h (.cursor k) (by simp [reads])
    have huniv : s.univ = s'.univ := h .univ (by simp [reads])
    rw [expectedFault, expectedFault, hcur, huniv]
  | _ => rfl

/-! ## Any host accesses before the completion (20_memory.md section 8) -/

/-- No command reads or writes OVR, CTRL or the answer to the host. -/
theorem exec_withHostOf (r : State) (hi : i ≠ .ack) (h : exec i s = .next u) :
    exec i (s.withHostOf r) = .next (u.withHostOf r) := by
  have hsame : expectedFault i (s.withHostOf r) = expectedFault i s := by cases i <;> rfl
  have hwrites : (s.withHostOf r).writes i = (s.writes i).withHostOf r := by cases i <;> rfl
  rcases exec_fault_or_writes s hi with ⟨c, hc, hx⟩ | ⟨hnone, hx⟩
  · cases hx.symm.trans h
    exact exec_of_fault hi (hsame.trans hc)
  · cases hx.symm.trans h
    rw [exec_of_no_fault hi (hsame.trans hnone), hwrites]
    rfl

theorem exec_answers (s : State) (hi : i ≠ .ack) : ∃ u, exec i s = .next u := by
  rcases exec_fault_or_writes s hi with ⟨c, -, hx⟩ | ⟨-, hx⟩
  · exact ⟨_, hx⟩
  · exact ⟨_, hx⟩

theorem HostTurn.not_outside {turn : Turn} (h : HostTurn turn) : ¬ OutsideTurn turn := by
  rintro ⟨size, off, hoff, rfl | ⟨v, rfl⟩⟩
  · exact absurd h (Nat.not_lt.2 hoff)
  · exact absurd h (Nat.not_lt.2 hoff)

theorem takeTurn_host_keeps_busy {turn : Turn} (hturn : HostTurn turn) (hb : s.busy = true)
    (h : takeTurn turn s = .next t) : t.busy = true := by
  cases turn with
  | read size off => exact (hostRead_busy h).trans hb
  | write size off v => exact hostWrite_keeps_busy hb h
  | engine | reset => exact hturn.elim

/-- A host access to a busy block answers a state in which the command is pending as it was. -/
theorem takeTurn_host_pending {turn : Turn} (hturn : HostTurn turn) (hb : s.busy = true) :
    ∃ t, takeTurn turn s = .next t ∧ t.withHostOf s = s := by
  rcases takeTurn_answers turn s with ⟨-, hout⟩ | ⟨t, ht, heff⟩
  · exact absurd hout hturn.not_outside
  · exact ⟨t, ht, heff.pending_frozen hb (takeTurn_host_keeps_busy hturn hb ht)⟩

/-- By induction on the accesses: each leaves the command pending as it was, and the engine's turn then completes it. -/
theorem completes_after_host_turns {ts : List Turn} (hb : s.busy = true) (hd : decode s.pend = .ok i) (hi : i ≠ .ack)
    (hts : ∀ turn ∈ ts, HostTurn turn) : ∃ t u,
      runSteps (ts.length + 1) (s.setSchedule (ts ++ [.engine])) = .next t ∧
      exec i (s.setSchedule []) = .next u ∧ t.withHostOf u = u := by
  induction ts generalizing s with
  | nil =>
    obtain ⟨u, hu⟩ := exec_answers (s.setSchedule []) hi
    exact ⟨u, u, (runSteps_one _).trans ((step_engine_of_decode hb hd hi).trans hu), hu, rfl⟩
  | cons turn ts ih =>
    obtain ⟨hturn, hts⟩ := List.forall_mem_cons.1 hts
    obtain ⟨w, hw, hfrozen⟩ := takeTurn_host_pending (s := s.setSchedule (ts ++ [.engine])) hturn hb
    have hstep : step (s.setSchedule (turn :: ts ++ [.engine])) = .next w := hw
    have hbusy : w.busy = true := (congrArg State.busy hfrozen).trans hb
    have hpend : w.pend = s.pend := (congrArg State.pend hfrozen :)
    have hschedule : w.schedule = ts ++ [.engine] := (congrArg State.schedule hfrozen :)
    have hnow : (w.setSchedule []).withHostOf s = s.setSchedule [] := (congrArg (·.setSchedule []) hfrozen :)
    obtain ⟨t, u, hrun, hexec, hsame⟩ := ih hbusy ((congrArg decode hpend).trans hd) hts
    rw [← hschedule] at hrun
    refine ⟨t, u.withHostOf s, (runSteps_succ hstep).trans hrun, ?_, congrArg (·.withHostOf s) hsame⟩
    rw [← hnow]
    exact exec_withHostOf s hi hexec

/-! ## Two idle states that differ in PEND alone (10_state.md R40) -/

/-- The state with another value in PEND. -/
def State.withPend (s : State) (v : Word) : State := { s with pend := v }

/-- Where the first answer is a next state, the second is that state but for PEND, and is that state when a command is
pending in it. -/
def EqButIdlePend (r r' : Result) : Prop :=
  ∀ t, r = .next t → ∃ t', r' = .next t' ∧ t'.withPend t.pend = t ∧ (t.busy = true → t'.pend = t.pend)

theorem eqButIdlePend_next (hidle : t.busy = false) (v : Word) : EqButIdlePend (.next t) (.next (t.withPend v)) := by
  rintro _ ⟨⟩
  exact ⟨_, rfl, rfl, fun hb => absurd (hidle.symm.trans hb) Bool.false_ne_true⟩

theorem eqButIdlePend_refl (r : Result) : EqButIdlePend r r := fun t h => ⟨t, h, rfl, fun _ => rfl⟩

theorem eqButIdlePend_fault (f : Fault) (r : Result) : EqButIdlePend (.fault f) r := fun _ h => nomatch h

theorem regValue_withPend (s : State) (v : Word) (l : Loc) : regValue (s.withPend v) l = regValue s l := by
  cases l <;> rfl

theorem hostRead_eqButIdlePend (hidle : s.busy = false) (size : AccessSize) (off : Nat) (v : Word) :
    EqButIdlePend (hostRead s size off) (hostRead (s.withPend v) size off) := by
  rcases hostRead_cases s size off with ⟨-, h⟩ | ⟨hwindow, hadm, h⟩ | ⟨hadm, h⟩
  · exact h ▸ eqButIdlePend_fault _ _
  · rw [h, hostRead_refused _ hwindow hadm]
    exact eqButIdlePend_next (t := s.setResp .error) hidle v
  · rw [h, hostRead_admitted _ hadm, regValue_withPend]
    exact eqButIdlePend_next (t := s.setResp (.data (regValue s (locationAt off)))) hidle v

/-- Of the writes only an issue touches PEND, and it sets PEND in both states. -/
theorem regWrite_eqButIdlePend (hidle : s.busy = false) (l : Loc) (x v : Word) :
    EqButIdlePend (answered (regWrite s l x)) (answered (regWrite (s.withPend v) l x)) := by
  have hidle' : (s.withPend v).busy = false := hidle
  cases l with
  | cmd =>
    rw [regWrite, regWrite]
    rcases writeCommand_cases s x with ⟨hb, -⟩ | ⟨-, rfl, h⟩ | ⟨-, hx, he, h⟩ | ⟨-, hx, he, h⟩
    · cases hidle.symm.trans hb
    · rw [h, writeCommand_ack hidle']
      exact eqButIdlePend_next (t := s.acknowledge.setResp .ok) hidle v
    · rw [h, writeCommand_err (s := s.withPend v) hidle hx he]
      exact eqButIdlePend_next (t := s.dropWrite.setResp .ok) hidle v
    · rw [h, writeCommand_issue (s := s.withPend v) hidle hx he]
      exact eqButIdlePend_refl (.next ((s.issue x).setResp .ok))
  | arg0 =>
    rw [regWrite, regWrite, writeOperand_idle hidle, writeOperand_idle hidle']
    exact eqButIdlePend_next (t := (s.setArg0 x).setResp .ok) hidle v
  | arg1 =>
    rw [regWrite, regWrite, writeOperand_idle hidle, writeOperand_idle hidle']
    exact eqButIdlePend_next (t := (s.setArg1 x).setResp .ok) hidle v
  | ctrl => exact eqButIdlePend_next (t := (s.setCtrl x).setResp .ok) hidle v
  | id | status | res | ecmd | univ | seed | prime | reserved | cur =>
    exact eqButIdlePend_next (t := s.setResp .ok) hidle v

theorem hostWrite_eqButIdlePend (hidle : s.busy = false) (size : AccessSize) (off : Nat) (x v : Word) :
    EqButIdlePend (hostWrite s size off x) (hostWrite (s.withPend v) size off x) := by
  rcases hostWrite_cases s size off x with ⟨-, h⟩ | ⟨hwindow, hadm, h⟩ | ⟨hadm, h⟩
  · exact h ▸ eqButIdlePend_fault _ _
  · rw [h, hostWrite_refused _ x hwindow hadm]
    exact eqButIdlePend_next (t := s.setResp .error) hidle v
  · rw [h, hostWrite_admitted _ hadm]
    exact regWrite_eqButIdlePend hidle (locationAt off) x v

theorem engineTurn_idle (hidle : s.busy = false) : engineTurn s = .next s := by simp [engineTurn, hidle]

theorem takeTurn_eqButIdlePend (hidle : s.busy = false) (turn : Turn) (v : Word) :
    EqButIdlePend (takeTurn turn s) (takeTurn turn (s.withPend v)) := by
  cases turn with
  | read size off => exact hostRead_eqButIdlePend hidle size off v
  | write size off x => exact hostWrite_eqButIdlePend hidle size off x v
  | engine =>
    rw [takeTurn_engine, takeTurn_engine, engineTurn_idle hidle, engineTurn_idle (s := s.withPend v) hidle]
    exact eqButIdlePend_next hidle v
  | reset => exact eqButIdlePend_refl (.next (applyReset s))

end Sys2Proof.Machine

section
open Sys2Proof Sys2Proof.Machine

/-- Settles O50: with the listed operands equal the check fails in both states or in neither, and then the writes are
equal. -/
theorem resultsDependOnListedOperands : Obligations.ResultsDependOnListedOperands := by
  intro i s s' hi hagree
  have hsame := AgreeOn.expectedFault_eq hagree
  rcases exec_fault_or_writes s hi with ⟨c, hc, hx⟩ | ⟨hnone, hx⟩
  · exact ⟨_, _, hx, exec_of_fault hi (hsame ▸ hc), rfl, nofun⟩
  · obtain ⟨hres, hsetup, hcursor, hpf, hth⟩ := AgreeOn.sameWrites hagree
    exact ⟨_, _, hx, exec_of_no_fault hi (hsame ▸ hnone), rfl, fun _ => ⟨hres, hsetup, hcursor, hpf, hth⟩⟩

/-- Settles O52: the run through the accesses to the completion, whose effects are those of the command at once. -/
theorem hostCannotDisturbPending : Obligations.HostCannotDisturbPending :=
  fun _ _ _ hb hd hi hts => completes_after_host_turns hb hd hi hts

/-- Settles O53: no turn of an idle block reads PEND. -/
theorem idlePendIsNeverRead : Obligations.IdlePendIsNeverRead := by
  intro s t v hidle hstep
  have hturn : step (s.withPend v) = takeTurn s.nextTurn (s.afterTurn.withPend v) := step_eq_takeTurn (s.withPend v)
  rw [step_eq_takeTurn] at hstep
  obtain ⟨t', ht', hsame, hissued⟩ := takeTurn_eqButIdlePend (s := s.afterTurn) hidle s.nextTurn v t hstep
  exact ⟨t', hturn.trans ht', hsame, hissued⟩

end

/-! # Closed forms: the roots, the primes and the selected prime, and the bijections of the mapping -/

namespace Sys2Proof.Machine

variable {s : State}

/-! ## The pipeline of 40_isqrt.md R122 -/

/-- The 32 stages start above a 64-bit value, where the root is 0. -/
theorem isqrtPipeline_eq_sqrt {x : Nat} (hx : x < 2 ^ 64) : isqrtPipeline x = Nat.sqrt x := by
  have htop : x >>> (2 * 32) = 0 := by rw [Nat.shiftRight_eq_div_pow, Nat.div_eq_of_lt hx]
  have hloop := isqrtLoop_sqrt_shiftRight x 32
  rwa [htop, Nat.sqrt_zero] at hloop

/-! ## The ROM of small primes (41_primality.md R141) -/

theorem prime_of_mem_smallPrimes : ∀ q ∈ smallPrimes, q.Prime ∧ q < 258 := by
  have hrom : ∀ q ∈ smallPrimes, q = 2 ∨ (q ≠ 1 ∧ isPrime q = true) := by decide
  have hbound : ∀ q ∈ smallPrimes, q < 258 := by decide
  intro q hq
  refine ⟨?_, hbound q hq⟩
  rcases hrom q hq with rfl | ⟨hone, hyes⟩
  · exact Nat.prime_two
  · exact (((isPrime_eq_true_iff q).1 hyes).2).resolve_left hone

/-! ## The prime predecessor (41_primality.md R152) -/

/-- By Bertrand's postulate the greatest prime up to `p` is at least half of it. -/
theorem half_le_primePred {p : Nat} (hp : 3 ≤ p) : (p + 1) / 2 ≤ primePred p := by
  obtain ⟨q, hq, hlow, hhigh⟩ := Nat.exists_prime_lt_and_le_two_mul (p / 2) (by omega)
  obtain ⟨-, hupper⟩ := primePred_isGreatest hp
  have hle : q ≤ primePred p := hupper ⟨hq, by omega⟩
  omega

theorem primePred_of_le_two {p : Nat} (hp : p ≤ 2) : primePred p = p := by
  have hsmall : ∀ n < 3, primePred n = n := by decide
  exact hsmall p (by omega)

theorem exec_isprime (s : State) : exec .isprime s = .next (s.setVerdict (isPrime s.arg0.toNat)).retire := rfl

theorem exec_ppred (s : State) : exec .ppred s = .next (s.setRes (narrow (primePred s.arg0.toNat))).retire := rfl

/-! ## The selected prime and the table hit (42_construction.md R176, R181, R187) -/

variable {u : Nat}

theorem lookup_eq_none_iff : lookup u = none ↔ ¬ TableKey u := by
  rw [← exists_mem_commonUniverseTable_iff]
  constructor
  · rintro hnone ⟨p, hmem⟩
    have hne := List.lookup_eq_none_iff.1 hnone (u, p) hmem
    simp at hne
  · intro hnot
    cases h : lookup u with
    | none => rfl
    | some p => exact absurd ⟨p, mem_commonUniverseTable_of_lookup h⟩ hnot

theorem selectPrime_snd_iff : (selectPrime u false).2 = true ↔ TableKey u := by
  rcases selectPrime_cases u false with ⟨-, p, hlookup, hsel⟩ | ⟨hnt | hnone, hsel⟩ <;> rw [hsel]
  · exact iff_of_true rfl (exists_mem_commonUniverseTable_iff.1 ⟨p, mem_commonUniverseTable_of_lookup hlookup⟩)
  · cases hnt
  · exact iff_of_false Bool.false_ne_true (lookup_eq_none_iff.1 hnone)

theorem selectPrime_selectedPrime (u : Nat) (nt : Bool) : SelectedPrime u (selectPrime u nt).1 :=
  selectPrime_fst_eq_search u nt ▸ search_selectedPrime u

/-- The two forms select the same prime, and the one without the table reports no hit. -/
theorem selectPrime_true_eq (u : Nat) : selectPrime u true = ((selectPrime u false).1, false) := by
  rw [selectPrime_fst_eq_search]
  rfl

theorem exec_selprime (s : State) : exec .selprime s = .next (s.setSelection (selectPrime s.arg0.toNat false)).retire :=
  rfl

theorem exec_selprimeNt (s : State) :
    exec .selprimeNt s = .next (s.setSelection (selectPrime s.arg0.toNat true)).retire := rfl

theorem exec_construct_of_ne_zero (h : s.arg0 ≠ 0) : exec .construct s = .next (s.construct false).retire :=
  constructWith_of_ne_zero false h

theorem exec_constructNt_of_ne_zero (h : s.arg0 ≠ 0) : exec .constructNt s = .next (s.construct true).retire :=
  constructWith_of_ne_zero true h

/-- The construction without the table leaves the state of the other but for TH. -/
theorem State.construct_true_eq (s : State) : s.construct true = (s.construct false).setTh false := by
  rw [State.construct, selectPrime_true_eq]
  rfl

end Sys2Proof.Machine

section
open Sys2Proof Sys2Proof.Machine

/-- Settles O12: the pipeline and the loop both compute the exact root. -/
theorem pipelineRootAgrees : Obligations.PipelineRootAgrees :=
  fun x => (isqrtPipeline_eq_sqrt x.isLt).trans (isqrtFloor_eq_sqrt x.toNat).symm

/-- Settles O13: the verdict's closed form, and the whole next state by the completion. -/
theorem isprimeGivesVerdict : Obligations.IsprimeGivesVerdict :=
  ⟨by decide, fun s => ⟨isPrime s.arg0.toNat, isPrime_eq_true_iff s.arg0.toNat, exec_isprime s⟩⟩

/-- Settles O14: the three small values by the definition, and from 3 on the greatest prime with Bertrand's bound. -/
theorem ppredGivesPredecessor : Obligations.PpredGivesPredecessor := by
  refine ⟨by decide, fun s => ⟨primePred s.arg0.toNat, ?closedForm, exec_ppred s⟩⟩
  case closedForm =>
    rcases Nat.lt_or_ge s.arg0.toNat 3 with hsmall | hlarge
    · exact .inl ⟨Nat.le_of_lt_succ hsmall, primePred_of_le_two (Nat.le_of_lt_succ hsmall)⟩
    · exact .inr ⟨hlarge, primePred_isGreatest hlarge, half_le_primePred hlarge⟩

/-- Settles O15: the entries by evaluation, their primality by the closed form of the verdict, and each prime below 258
is among them. -/
theorem smallPrimeRomHoldsPrimes : Obligations.SmallPrimeRomHoldsPrimes := by
  refine ⟨rfl, List.isChain_iff_pairwise.1 (by decide), fun q => ⟨prime_of_mem_smallPrimes q, ?_⟩⟩
  rintro ⟨hprime, hlt⟩
  exact mem_smallPrimes_of_prime hprime hlt

/-- Settles O16: both forms select one prime, and the form with the table reports its hit. -/
theorem selprimeFormsSelect : Obligations.SelprimeFormsSelect := by
  refine ⟨by decide, by decide, fun s => ⟨(selectPrime s.arg0.toNat false).1, (selectPrime s.arg0.toNat false).2,
    selectPrime_selectedPrime _ _, selectPrime_snd_iff, exec_selprime s, ?_⟩⟩
  rw [exec_selprimeNt, selectPrime_true_eq]
  rfl

/-- Settles O18: the completions with universe 0 and with any other, whose prime and hit are those of the selection. -/
theorem constructBuildsInstance : Obligations.ConstructBuildsInstance :=
  ⟨by decide, fun _ => ⟨constructWith_of_eq_zero false, fun hne =>
    ⟨_, _, selectPrime_selectedPrime _ _, selectPrime_snd_iff, exec_construct_of_ne_zero hne⟩⟩⟩

/-- Settles O19: as for CONSTRUCT, with TH cleared. -/
theorem constructNtBuildsInstance : Obligations.ConstructNtBuildsInstance :=
  ⟨by decide, fun _ => ⟨constructWith_of_eq_zero true, fun hne =>
    ⟨_, selectPrime_selectedPrime _ true, exec_constructNt_of_ne_zero hne⟩⟩⟩

/-- Settles O20: both fault alike on universe 0, and otherwise build the same state but for TH. -/
theorem constructFormsBuildTheSame : Obligations.ConstructFormsBuildTheSame := by
  intro s
  by_cases hzero : s.arg0 = 0
  · exact ⟨s.enterFault .uzero, s.th, constructWith_of_eq_zero false hzero, constructWith_of_eq_zero true hzero⟩
  · refine ⟨(s.construct false).retire, false, exec_construct_of_ne_zero hzero, ?_⟩
    rw [exec_constructNt_of_ne_zero hzero, State.construct_true_eq]
    rfl

/-- Settles O31: both commands check the same index against UNIVERSE and evaluate at it, and a fault leaves each its own
word. -/
theorem seqnextAgreesWithEval : Obligations.SeqnextAgreesWithEval := by
  intro s k
  by_cases hin : s.cur[k] < s.univ
  · refine ⟨_, _, exec_seqnext_of_lt_univ (s := s.withPend (encode (.seqnext k))) hin,
      exec_eval_of_lt_univ (s := (s.setArg0 s.cur[k]).withPend (encode .eval)) hin, rfl, rfl, rfl, rfl,
      fun _ => rfl, ?_⟩
    exact fun hout => absurd hin (BitVec.not_lt.2 hout)
  · have hout : s.univ ≤ s.cur[k] := BitVec.not_lt.1 hin
    refine ⟨_, _, exec_seqnext_of_univ_le (s := s.withPend (encode (.seqnext k))) hout,
      exec_eval_of_univ_le (s := (s.setArg0 s.cur[k]).withPend (encode .eval)) hout, rfl, rfl, rfl, rfl, ?_, ?_⟩
    · exact fun h => absurd h hin
    · exact fun _ => ⟨rfl, rfl, rfl, rfl, rfl⟩

end

/-! # The mapping permutes the universe (43_mapping.md R207, R212) -/

namespace Sys2Proof.Machine

/-! ## The core mapping on exact numbers, as a signed square modulo the prime -/

section
variable {p x y : Nat}

theorem permute_of_ge (h : p ≤ x) : permute p x = x := if_pos h

theorem permute_of_le_half (hx : x < p) (h : x ≤ p / 2) : permute p x = x * x % p := by
  rw [permute, if_neg (not_le.2 hx), Nat.shiftRight_one, if_pos h, modsq]

theorem permute_of_half_lt (hx : x < p) (h : p / 2 < x) : permute p x = p - x * x % p := by
  rw [permute, if_neg (not_le.2 hx), Nat.shiftRight_one, if_neg (not_le.2 h), modsq]

theorem cast_permute_of_le_half (hx : x < p) (h : x ≤ p / 2) : (permute p x : ZMod p) = (x : ZMod p) ^ 2 := by
  rw [permute_of_le_half hx h, ZMod.natCast_mod, Nat.cast_mul, sq]

theorem cast_permute_of_half_lt (hx : x < p) (h : p / 2 < x) : (permute p x : ZMod p) = -(x : ZMod p) ^ 2 := by
  have hle : x * x % p ≤ p := (Nat.mod_lt _ (Nat.zero_lt_of_lt hx)).le
  rw [permute_of_half_lt hx h, Nat.cast_sub hle, ZMod.natCast_self, zero_sub, ZMod.natCast_mod, Nat.cast_mul, sq]

theorem cast_ne_zero_of_lt (hpos : 0 < x) (hx : x < p) : (x : ZMod p) ≠ 0 := fun h =>
  absurd (Nat.le_of_dvd hpos ((ZMod.natCast_eq_zero_iff x p).1 h)) (not_le.2 hx)

/-- Below the prime the mapping stays below it: a folded square is not 0. -/
theorem permute_lt (hp : p.Prime) (hx : x < p) : permute p x < p := by
  rcases Nat.lt_or_ge (p / 2) x with hhigh | hlow
  · have hpos : x * x % p ≠ 0 := fun hzero => by
      have hdvd : p ∣ x := (hp.dvd_mul.1 (Nat.dvd_of_mod_eq_zero hzero)).elim id id
      exact absurd (Nat.le_of_dvd (Nat.zero_lt_of_lt hhigh) hdvd) (not_le.2 hx)
    rw [permute_of_half_lt hx hhigh]
    omega
  · rw [permute_of_le_half hx hlow]
    exact Nat.mod_lt _ hp.pos

/-- Two indices below the prime with the same square are equal, or add up to the prime. -/
theorem eq_or_add_eq_of_sq_eq (hp : p.Prime) (hx : x < p) (hy : y < p) (h : (x : ZMod p) ^ 2 = (y : ZMod p) ^ 2) :
    x = y ∨ x + y = p ∨ x + y = 0 := by
  have := Fact.mk hp
  rcases sq_eq_sq_iff_eq_or_eq_neg.1 h with hsame | hneg
  · have hmod : x % p = y % p := (ZMod.natCast_eq_natCast_iff' x y p).1 hsame
    rw [Nat.mod_eq_of_lt hx, Nat.mod_eq_of_lt hy] at hmod
    exact .inl hmod
  · have hdvd : p ∣ x + y := (ZMod.natCast_eq_zero_iff (x + y) p).1 (by rw [Nat.cast_add, hneg, neg_add_cancel])
    obtain ⟨c, hc⟩ := hdvd
    have hlt : p * c < p * 2 := by omega
    have hsmall : c < 2 := Nat.lt_of_mul_lt_mul_left hlt
    interval_cases c <;> omega

/-- A square is no folded square, because -1 is no square modulo a prime that is 3 modulo 4. -/
theorem permute_ne_of_sides (hp : p.Prime) (hmod : p % 4 = 3) (hx : x < p) (hxlow : x ≤ p / 2) (hy : y < p)
    (hyhigh : p / 2 < y) : permute p x ≠ permute p y := by
  have := Fact.mk hp
  intro h
  have hcast := congrArg (Nat.cast : Nat → ZMod p) h
  rw [cast_permute_of_le_half hx hxlow, cast_permute_of_half_lt hy hyhigh] at hcast
  exact ZMod.mod_four_ne_three_of_sq_eq_neg_sq' (cast_ne_zero_of_lt (Nat.zero_lt_of_lt hyhigh) hy) hcast hmod

/-- Two indices on one side of half the prime have different squares. -/
theorem permute_injOn (hp : p.Prime) (hmod : p % 4 = 3) (hx : x < p) (hy : y < p) (h : permute p x = permute p y) :
    x = y := by
  have hcast := congrArg (Nat.cast : Nat → ZMod p) h
  rcases Nat.lt_or_ge (p / 2) x with hxhigh | hxlow <;> rcases Nat.lt_or_ge (p / 2) y with hyhigh | hylow
  · rw [cast_permute_of_half_lt hx hxhigh, cast_permute_of_half_lt hy hyhigh, neg_inj] at hcast
    have := eq_or_add_eq_of_sq_eq hp hx hy hcast
    omega
  · exact absurd h.symm (permute_ne_of_sides hp hmod hy hylow hx hxhigh)
  · exact absurd h (permute_ne_of_sides hp hmod hx hxlow hy hyhigh)
  · rw [cast_permute_of_le_half hx hxlow, cast_permute_of_le_half hy hylow] at hcast
    have := eq_or_add_eq_of_sq_eq hp hx hy hcast
    omega

end

/-! ## The mapping and the evaluation permute the universe -/

section
variable {u p : Nat}

/-- A map of a finite initial segment into itself that keeps different numbers apart is a bijection of it. -/
theorem bijOn_Iio {f : Nat → Nat} (hmaps : ∀ x < u, f x < u) (hinj : ∀ x < u, ∀ y < u, f x = f y → x = y) :
    Set.BijOn f (Set.Iio u) (Set.Iio u) :=
  ((Set.finite_Iio u).injOn_iff_bijOn_of_mapsTo hmaps).1 fun x hx y hy => hinj x hx y hy

/-- From the prime on the mapping is the identity, and with prime 0 it is the identity everywhere. -/
theorem permute_bijOn (h : SelectedPrime u p) : Set.BijOn (permute p) (Set.Iio u) (Set.Iio u) := by
  rcases h with ⟨-, rfl⟩ | ⟨-, ⟨hp, hmod, hle⟩, -⟩
  · exact (Set.bijOn_id _).congr fun x _ => (permute_of_ge x.zero_le).symm
  · refine bijOn_Iio (fun x hx => ?_) fun x hx y hy h => ?_
    · rcases Nat.lt_or_ge x p with hlow | hgap
      · exact (permute_lt hp hlow).trans_le hle
      · rwa [permute_of_ge hgap]
    · rcases Nat.lt_or_ge x p with hxlow | hxgap <;> rcases Nat.lt_or_ge y p with hylow | hygap
      · exact permute_injOn hp hmod hxlow hylow h
      · have := permute_lt hp hxlow
        rw [permute_of_ge hygap] at h
        omega
      · have := permute_lt hp hylow
        rw [permute_of_ge hxgap] at h
        omega
      · rwa [permute_of_ge hxgap, permute_of_ge hygap] at h

/-- The rotation of the universe by the seed (43_mapping.md R208). -/
theorem rotate_bijOn (sd : Nat) : Set.BijOn (fun j => (sd + j) % u) (Set.Iio u) (Set.Iio u) := by
  refine bijOn_Iio (fun x hx => Nat.mod_lt _ (Nat.zero_lt_of_lt hx)) fun x hx y hy h => ?_
  have hmod : x ≡ y [MOD u] := Nat.ModEq.add_left_cancel' sd h
  rwa [Nat.ModEq, Nat.mod_eq_of_lt hx, Nat.mod_eq_of_lt hy] at hmod

theorem evaluate_bijOn (h : SelectedPrime u p) (sd : Nat) : Set.BijOn (evaluate u sd p) (Set.Iio u) (Set.Iio u) :=
  (permute_bijOn h).comp ((rotate_bijOn sd).comp (permute_bijOn h))

end

/-! ## From the exact numbers to the registers, and to the commands -/

variable {s : State} {i : Instr} {g : Word → Word}

/-- The indices of a universe, as register values. -/
def indices (u : Word) : Set Word := {x | x < u}

/-- The bijection at register width. -/
theorem word_bijOn {u : Word} {f : Nat → Nat} (hf : Set.BijOn f (Set.Iio u.toNat) (Set.Iio u.toNat))
    (hg : ∀ x < u, (g x).toNat = f x.toNat) : Set.BijOn g (indices u) (indices u) := by
  refine ((Set.toFinite (indices u)).injOn_iff_bijOn_of_mapsTo fun x hx => ?_).1 fun x hx y hy h => ?_
  · exact BitVec.lt_def.2 ((hg x hx).trans_lt (hf.mapsTo (BitVec.lt_def.1 hx)))
  · refine BitVec.eq_of_toNat_eq (hf.injOn (BitVec.lt_def.1 hx) (BitVec.lt_def.1 hy) ?_)
    rw [← hg x hx, ← hg y hy, h]

/-- Command `i` completes with `v` in RES. -/
def YieldsAt (i : Instr) (s : State) (v : Word) : Prop := ∃ t, exec i s = .next t ∧ t.done = true ∧ t.res = v

/-- A command that completes at every index in range, with a bijection's value in RES, takes every value in range
exactly once. -/
theorem yields_bijectively (hbij : Set.BijOn g (indices s.univ) (indices s.univ))
    (hexec : ∀ x < s.univ, exec i (s.setArg0 x) = .next ((s.setArg0 x).setRes (g x)).retire) :
    (∀ x : Word, x < s.univ → ∃ t, exec i (s.setArg0 x) = .next t ∧ t.done = true ∧ t.res < s.univ) ∧
    (∀ y : Word, y < s.univ → ∃! x : Word, x < s.univ ∧ YieldsAt i (s.setArg0 x) y) := by
  refine ⟨fun x hx => ⟨_, hexec x hx, rfl, hbij.mapsTo hx⟩, fun y hy => ?_⟩
  obtain ⟨x, hx, rfl⟩ := hbij.surjOn hy
  refine ⟨x, ⟨hx, _, hexec x hx, rfl, rfl⟩, fun x' ⟨hx', t, ht, _, hres⟩ => ?_⟩
  cases (hexec x' hx').symm.trans ht
  exact hbij.injOn hx' hx hres

theorem permuteWord_of_le {p x : Word} (h : p ≤ x) : permuteWord p x = x := if_pos h

/-- 1 and the prime less 1 are fixed points (43_mapping.md R207). -/
theorem permute_fixed {p : Nat} (hp : 3 ≤ p) : permute p 1 = 1 ∧ permute p (p - 1) = p - 1 := by
  have hlast : (p - 1) * (p - 1) % p = 1 := by
    obtain ⟨k, rfl⟩ := Nat.exists_eq_add_of_le hp
    have hsquare : (3 + k - 1) * (3 + k - 1) = 1 + (3 + k) * (1 + k) := by
      rw [show 3 + k - 1 = 2 + k by omega]
      ring
    rw [hsquare, Nat.add_mul_mod_self_left]
    exact Nat.mod_eq_of_lt (by omega)
  constructor
  · rw [permute_of_le_half (by omega) (by omega)]
    exact Nat.mod_eq_of_lt (by omega)
  · rw [permute_of_half_lt (by omega) (by omega), hlast]

theorem permute_zero (p : Nat) : permute p 0 = 0 := by
  rcases p.eq_zero_or_pos with rfl | hpos
  · exact permute_of_ge le_rfl
  · rw [permute_of_le_half hpos (Nat.zero_le _), Nat.mul_zero, Nat.zero_mod]

theorem permuteWord_zero (p : Word) : permuteWord p 0 = 0 :=
  BitVec.eq_of_toNat_eq (toNat_permuteWord.trans (permute_zero p.toNat))

theorem permuteWord_fixed {p : Word} (hp : 3 ≤ p.toNat) : permuteWord p 1 = 1 ∧ permuteWord p (p - 1) = p - 1 := by
  obtain ⟨hone, hlast⟩ := permute_fixed hp
  have hpred : (p - 1).toNat = p.toNat - 1 := by bv_omega
  refine ⟨BitVec.eq_of_toNat_eq ?_, BitVec.eq_of_toNat_eq ?_⟩
  · exact toNat_permuteWord.trans hone
  · rw [toNat_permuteWord, hpred, hlast]

/-- With prime 0 the evaluation is the rotation alone (43_mapping.md R211). -/
theorem toNat_evaluateWord_degenerate {u sd x : Word} (hu : u ≠ 0) :
    (evaluateWord u sd 0 x).toNat = (sd.toNat + x.toNat) % u.toNat := by
  have hid (n : Nat) : permute (0 : Word).toNat n = n := permute_of_ge n.zero_le
  rw [toNat_evaluateWord hu, evaluate, hid, hid]

end Sys2Proof.Machine

section
open Sys2Proof Sys2Proof.Machine

/-- Settles O26: the core mapping permutes the universe of a selected prime, with its fixed points. -/
theorem permuteIsBijection : Obligations.PermuteIsBijection := by
  intro s hok
  have hbij := word_bijOn (permute_bijOn hok.prime_selected) fun x _ => toNat_permuteWord (p := s.prime)
  obtain ⟨hrange, honce⟩ := yields_bijectively (i := .permute) hbij
    fun x hx => exec_permute_of_lt_univ (s := s.setArg0 x) hx
  exact ⟨hrange, honce, permuteWord_zero s.prime, permuteWord_fixed, fun x => permuteWord_of_le⟩

/-- Settles O27: the evaluation is the mapping, the rotation by the seed and the mapping again, each a bijection. -/
theorem evalIsBijection : Obligations.EvalIsBijection := by
  intro s hok
  have hne : s.univ ≠ 0 := fun hzero => by simpa [hzero] using hok.univ_pos
  have hbij := word_bijOn (evaluate_bijOn hok.prime_selected s.seed.toNat) fun x _ => toNat_evaluateWord hne
  exact yields_bijectively (i := .eval) hbij fun x hx => exec_eval_of_lt_univ (s := s.setArg0 x) hx

/-- Settles O28: the completion in range, and a remainder by 1 is 0. -/
theorem degenerateInstancesRotate : Obligations.DegenerateInstancesRotate := by
  intro s hprime hin
  have hne : s.univ ≠ 0 := fun hzero => BitVec.not_lt_zero (hzero ▸ hin)
  have hres : (evaluateWord s.univ s.seed s.prime s.arg0).toNat = (s.seed.toNat + s.arg0.toNat) % s.univ.toNat :=
    hprime ▸ toNat_evaluateWord_degenerate hne
  refine ⟨_, exec_eval_of_lt_univ hin, rfl, hres, fun hone => BitVec.eq_of_toNat_eq (hres.trans ?_)⟩
  rw [hone]
  exact Nat.mod_one _

end
